-- ==== Sys2Proof/Word.lean ====
section
/-! DEFINITION. The word types of the block: 8-bit data, 16-bit addresses (00_scope R7). -/

namespace Sys2Proof

/-- R7: the data register width, 8 bits. -/
abbrev Byte := BitVec 8

/-- R7: the width of PC, SP, the register pairs and a logical address, 16 bits. -/
abbrev Word := BitVec 16

end Sys2Proof
end

