-- ==== Sys2Proof/Config.lean ====
section
/-! DEFINITION. The implementation parameters of 00_scope R7 as plain data, and the values the spec leaves OPEN
(92_eei_decisions D16, D20) as constants without a body. The default values stand in Machine/Params.lean. -/

namespace Sys2Proof

/-- R159: whether a request that arrives while INTE = 0 is lost (`gated`) or kept (`ungated`); 92 D9. -/
inductive IrqLatch where
  | gated
  | ungated
  deriving DecidableEq, Repr

/-- R140, R141: the device behind the port callbacks: the stub, which answers every IN with one sentinel and records
the last OUT, or an external device, whose answers are the free value `Config.portIn`; 92 D20. -/
inductive PortDevice where
  | stub (sentinel : Byte)
  | external
  deriving DecidableEq, Repr

/-- R7: the parameters a model takes as an argument. DESIGN CHOICE (log entry 2): they are one field of State that no
step changes, so that a statement about every state is a statement about every parameter value. -/
structure Config where
  /-- `NUM_EXT_BANKS`, an integer at least 1 (D16). -/
  numExtBanks : Nat
  /-- `WINDOW_BIT(A000)`, the mode bit of 0xA000-0xDFFF (D14). -/
  bitA000 : Nat
  /-- `WINDOW_BIT(8000)`, the mode bit of 0x8000-0x9FFF (D14). -/
  bit8000 : Nat
  /-- `WINDOW_BIT(E000)`, the mode bit of 0xE000-0xFFFF (D14). -/
  bitE000 : Nat
  /-- `FRAME_PIXELS`, the horizontal positions of a line (D17). -/
  framePixels : Nat
  /-- `FRAME_LINES`, the lines of a frame (D17). -/
  frameLines : Nat
  /-- `PIXEL_QUANTUM`, the positions a tick advances (D17). -/
  pixelQuantum : Nat
  /-- `RASTER_RESET_POS`, the pixel counter after reset (D18). -/
  resetPixel : Nat
  /-- `RASTER_RESET_POS`, the line counter after reset (D18). -/
  resetLine : Nat
  /-- `IRQ_LATCH` (D9). -/
  irqLatch : IrqLatch
  /-- `PORT_IN` (D20). -/
  portDevice : PortDevice
  /-- `CYCLES[op]` by opcode (D4, D6). -/
  cycles : List Nat
  /-- `CYCLES_NT[op]` by opcode, read for the conditional calls and returns (D5). -/
  cyclesNT : List Nat
  /-- `MNEMONIC[op]` by opcode, read by the disassembler only (D26). -/
  mnemonics : List String
  deriving DecidableEq, Repr

/-- OPEN (R7, D16; log entry 3): the extension banks beyond the one that the spec guarantees. -/
opaque Config.extraExtBanks : Nat

/-- OPEN (R140, D20; log entry 4): `PORT_IN_SENTINEL`, what the port stub answers to every IN. -/
opaque Config.portInSentinel : Byte

/-- OPEN (R140, D20; log entry 4): the oracle `PORT_IN` of an external port device. Its first argument is the number
of port reads made before this one, so that every read has a free value of its own; the second is the port. -/
opaque Config.portIn : Nat → Byte → Byte

end Sys2Proof
end

