-- ==== Sys2Proof/Machine/Params.lean ====
section
/-! DEFINITION. The fixed constants of 00_scope R7, the default values of its parameters, and which parameter values a
model may be built with (R166, 92 D14 to D18). -/

namespace Sys2Proof.Machine

/-- R7: `BANK_SIZE`, 64 KB. -/
def bankSize : Nat := 0x10000

/-- R7: `TICKS_PER_MC`, the clock ticks of a machine cycle. -/
def ticksPerMc : Nat := 4

/-- R7: `MAX_INSTR_LEN`. -/
def maxInstrLen : Nat := 3

/-- R7: `LOAD_OFFSET`, where a binary is loaded. -/
def loadOffset : Nat := 0x0100

/-- R7: `RST7_OPCODE`, the opcode that interrupt acceptance forces (92 D33). -/
def rst7Opcode : Byte := 0xFF#8

/-- R72: `CYCLES[op]`, sixteen opcodes a line, in machine cycles of 4 ticks. -/
def defaultCycles : List Nat :=
  [1, 3, 2, 2, 2, 2, 2, 1, 1, 3, 2, 2, 2, 2, 2, 1] ++
  [1, 3, 2, 2, 2, 2, 2, 1, 1, 3, 2, 2, 2, 2, 2, 1] ++
  [1, 3, 5, 2, 2, 2, 2, 1, 1, 3, 5, 2, 2, 2, 2, 1] ++
  [1, 3, 4, 2, 3, 3, 3, 1, 1, 3, 4, 2, 2, 2, 2, 1] ++
  [2, 2, 2, 2, 2, 2, 2, 2, 2, 2, 2, 2, 2, 2, 2, 2] ++
  [2, 2, 2, 2, 2, 2, 2, 2, 2, 2, 2, 2, 2, 2, 2, 2] ++
  [2, 2, 2, 2, 2, 2, 2, 2, 2, 2, 2, 2, 2, 2, 2, 2] ++
  [2, 2, 2, 2, 2, 2, 2, 2, 2, 2, 2, 2, 2, 2, 2, 2] ++
  [1, 1, 1, 1, 1, 1, 2, 1, 1, 1, 1, 1, 1, 1, 2, 1] ++
  [1, 1, 1, 1, 1, 1, 2, 1, 1, 1, 1, 1, 1, 1, 2, 1] ++
  [1, 1, 1, 1, 1, 1, 2, 1, 1, 1, 1, 1, 1, 1, 2, 1] ++
  [1, 1, 1, 1, 1, 1, 2, 1, 1, 1, 1, 1, 1, 1, 2, 1] ++
  [4, 3, 3, 3, 6, 4, 2, 4, 4, 3, 3, 3, 6, 6, 2, 4] ++
  [4, 3, 3, 3, 6, 4, 2, 4, 4, 3, 3, 3, 6, 6, 2, 4] ++
  [4, 3, 3, 6, 6, 4, 2, 4, 4, 2, 3, 1, 6, 6, 2, 4] ++
  [4, 3, 3, 1, 6, 4, 2, 4, 4, 2, 3, 1, 6, 6, 2, 4]

/-- R72: `CYCLES_NT[op]`, read for the conditional calls and returns only (R71); the other entries repeat `CYCLES`. -/
def defaultCyclesNT : List Nat :=
  [1, 3, 2, 2, 2, 2, 2, 1, 1, 3, 2, 2, 2, 2, 2, 1] ++
  [1, 3, 2, 2, 2, 2, 2, 1, 1, 3, 2, 2, 2, 2, 2, 1] ++
  [1, 3, 5, 2, 2, 2, 2, 1, 1, 3, 5, 2, 2, 2, 2, 1] ++
  [1, 3, 4, 2, 3, 3, 3, 1, 1, 3, 4, 2, 2, 2, 2, 1] ++
  [2, 2, 2, 2, 2, 2, 2, 2, 2, 2, 2, 2, 2, 2, 2, 2] ++
  [2, 2, 2, 2, 2, 2, 2, 2, 2, 2, 2, 2, 2, 2, 2, 2] ++
  [2, 2, 2, 2, 2, 2, 2, 2, 2, 2, 2, 2, 2, 2, 2, 2] ++
  [2, 2, 2, 2, 2, 2, 2, 2, 2, 2, 2, 2, 2, 2, 2, 2] ++
  [1, 1, 1, 1, 1, 1, 2, 1, 1, 1, 1, 1, 1, 1, 2, 1] ++
  [1, 1, 1, 1, 1, 1, 2, 1, 1, 1, 1, 1, 1, 1, 2, 1] ++
  [1, 1, 1, 1, 1, 1, 2, 1, 1, 1, 1, 1, 1, 1, 2, 1] ++
  [1, 1, 1, 1, 1, 1, 2, 1, 1, 1, 1, 1, 1, 1, 2, 1] ++
  [2, 3, 3, 3, 4, 4, 2, 4, 2, 3, 3, 3, 4, 6, 2, 4] ++
  [2, 3, 3, 3, 4, 4, 2, 4, 2, 3, 3, 3, 4, 6, 2, 4] ++
  [2, 3, 3, 6, 4, 4, 2, 4, 2, 2, 3, 1, 4, 6, 2, 4] ++
  [2, 3, 3, 1, 4, 4, 2, 4, 2, 2, 3, 1, 4, 6, 2, 4]

/-- R149: the default of `MNEMONIC[op]`, the `asm` column of spec/opcode_table.json, sixteen opcodes a line. -/
def defaultMnemonics : List String :=
  ["NOP", "LXI B,", "STAX B", "INX B", "INR B", "DCR B", "MVI B,", "RLC", "NOP", "DAD B", "LDAX B", "DCX B", "INR C", "DCR C", "MVI C,", "RRC"] ++
  ["NOP", "LXI D,", "STAX D", "INX D", "INR D", "DCR D", "MVI D,", "RAL", "NOP", "DAD D", "LDAX D", "DCX D", "INR E", "DCR E", "MVI E,", "RAR"] ++
  ["NOP", "LXI H,", "SHLD", "INX H", "INR H", "DCR H", "MVI H,", "DAA", "NOP", "DAD H", "LHLD", "DCX H", "INR L", "DCR L", "MVI L,", "CMA"] ++
  ["NOP", "LXI SP,", "STA", "INX SP", "INR M", "DCR M", "MVI M,", "STC", "NOP", "DAD SP", "LDA", "DCX SP", "INR A", "DCR A", "MVI A,", "CMC"] ++
  ["MOV B,B", "MOV B,C", "MOV B,D", "MOV B,E", "MOV B,H", "MOV B,L", "MOV B,M", "MOV B,A", "MOV C,B", "MOV C,C", "MOV C,D", "MOV C,E", "MOV C,H", "MOV C,L", "MOV C,M", "MOV C,A"] ++
  ["MOV D,B", "MOV D,C", "MOV D,D", "MOV D,E", "MOV D,H", "MOV D,L", "MOV D,M", "MOV D,A", "MOV E,B", "MOV E,C", "MOV E,D", "MOV E,E", "MOV E,H", "MOV E,L", "MOV E,M", "MOV E,A"] ++
  ["MOV H,B", "MOV H,C", "MOV H,D", "MOV H,E", "MOV H,H", "MOV H,L", "MOV H,M", "MOV H,A", "MOV L,B", "MOV L,C", "MOV L,D", "MOV L,E", "MOV L,H", "MOV L,L", "MOV L,M", "MOV L,A"] ++
  ["MOV M,B", "MOV M,C", "MOV M,D", "MOV M,E", "MOV M,H", "MOV M,L", "HLT", "MOV M,A", "MOV A,B", "MOV A,C", "MOV A,D", "MOV A,E", "MOV A,H", "MOV A,L", "MOV A,M", "MOV A,A"] ++
  ["ADD B", "ADD C", "ADD D", "ADD E", "ADD H", "ADD L", "ADD M", "ADD A", "ADC B", "ADC C", "ADC D", "ADC E", "ADC H", "ADC L", "ADC M", "ADC A"] ++
  ["SUB B", "SUB C", "SUB D", "SUB E", "SUB H", "SUB L", "SUB M", "SUB A", "SBB B", "SBB C", "SBB D", "SBB E", "SBB H", "SBB L", "SBB M", "SBB A"] ++
  ["ANA B", "ANA C", "ANA D", "ANA E", "ANA H", "ANA L", "ANA M", "ANA A", "XRA B", "XRA C", "XRA D", "XRA E", "XRA H", "XRA L", "XRA M", "XRA A"] ++
  ["ORA B", "ORA C", "ORA D", "ORA E", "ORA H", "ORA L", "ORA M", "ORA A", "CMP B", "CMP C", "CMP D", "CMP E", "CMP H", "CMP L", "CMP M", "CMP A"] ++
  ["RNZ", "POP B", "JNZ", "JMP", "CNZ", "PUSH B", "ADI", "RST 0", "RZ", "RET", "JZ", "JMP", "CZ", "CALL", "ACI", "RST 1"] ++
  ["RNC", "POP D", "JNC", "OUT", "CNC", "PUSH D", "SUI", "RST 2", "RC", "RET", "JC", "IN", "CC", "CALL", "SBI", "RST 3"] ++
  ["RPO", "POP H", "JPO", "XTHL", "CPO", "PUSH H", "ANI", "RST 4", "RPE", "PCHL", "JPE", "XCHG", "CPE", "CALL", "XRI", "RST 5"] ++
  ["RP", "POP PSW", "JP", "DI", "CP", "PUSH PSW", "ORI", "RST 6", "RM", "SPHL", "JM", "EI", "CM", "CALL", "CPI", "RST 7"]

end Sys2Proof.Machine

namespace Sys2Proof

/-- R7: `IMAGE_SIZE`, the bytes of the main bank and the extension banks. -/
def Config.imageSize (c : Config) : Nat := Machine.bankSize * (1 + c.numExtBanks)

/-- R7, R72: `CYCLES[op]`. -/
def Config.cyclesOf (c : Config) (op : Byte) : Nat := c.cycles.getD op.toNat 1

/-- R7, R72: `CYCLES_NT[op]`. -/
def Config.cyclesNTOf (c : Config) (op : Byte) : Nat := c.cyclesNT.getD op.toNat 1

/-- R7, R149: `MNEMONIC[op]`. -/
def Config.mnemonicOf (c : Config) (op : Byte) : String := c.mnemonics.getD op.toNat ""

/-- R7, R167: the ticks of a frame. -/
def Config.frameTicks (c : Config) : Nat := c.framePixels / c.pixelQuantum * c.frameLines

/-- R7, R166: the parameter values that construction takes. `NUM_EXT_BANKS` is at least 1 (D16); the window bits are the
mode byte's top three, one each (D14); the frame numbers are positive and the quantum divides the line (R166); the reset
position lies in the frame (R25); the cycle tables cover the 256 opcodes with lengths in 1 to 6, none longer when not
taken (R23, R76); the mnemonic table covers them too (R149). -/
abbrev Config.Legal (c : Config) : Prop :=
  1 ≤ c.numExtBanks ∧
  (c.bitA000 ∈ [5, 6, 7] ∧ c.bit8000 ∈ [5, 6, 7] ∧ c.bitE000 ∈ [5, 6, 7]) ∧
  (c.bitA000 ≠ c.bit8000 ∧ c.bit8000 ≠ c.bitE000 ∧ c.bitA000 ≠ c.bitE000) ∧
  (0 < c.framePixels ∧ 0 < c.frameLines ∧ 0 < c.pixelQuantum ∧ c.pixelQuantum ∣ c.framePixels) ∧
  (c.resetPixel < c.framePixels ∧ c.resetLine < c.frameLines) ∧
  (c.cycles.length = 256 ∧ ∀ n ∈ c.cycles, 1 ≤ n ∧ n ≤ 6) ∧
  (c.cyclesNT.length = 256 ∧ ∀ e ∈ c.cyclesNT.zip c.cycles, 1 ≤ e.1 ∧ e.1 ≤ e.2) ∧
  c.mnemonics.length = 256

/-- R7: the default of every parameter that has one; the two OPEN ones, `NUM_EXT_BANKS` and `PORT_IN_SENTINEL`, are
the constants of Config.lean (log entries 2, 3, 4). -/
def Config.default : Config where
  numExtBanks := Config.extraExtBanks + 1
  bitA000 := 5
  bit8000 := 6
  bitE000 := 7
  framePixels := 768
  frameLines := 312
  pixelQuantum := 16
  resetPixel := 0
  resetLine := 0
  irqLatch := .gated
  portDevice := .stub Config.portInSentinel
  cycles := Machine.defaultCycles
  cyclesNT := Machine.defaultCyclesNT
  mnemonics := Machine.defaultMnemonics

end Sys2Proof
end

