-- ==== Sys2Proof/Syntax.lean ====
section
/-! DEFINITION. The instructions of the block (30_encoding R58): one constructor per mnemonic of spec/opcode_table.json,
but for MOV and MVI, whose register and memory forms have a rule each (R77 to R81) and a constructor each. -/

namespace Sys2Proof

/-- R12: the seven general registers. -/
inductive Reg where
  | b | c | d | e | h | l | a
  deriving DecidableEq, Repr

/-- R53: what a 3-bit register code names: a register, or the memory byte at HL (code 6). -/
inductive Operand where
  | reg (r : Reg)
  | m
  deriving DecidableEq, Repr

/-- R54: the pair codes of LXI, DAD, INX, DCX, LDAX, STAX. -/
inductive RegPair where
  | bc | de | hl | sp
  deriving DecidableEq, Repr

/-- R54: the pair codes of PUSH and POP. -/
inductive StackPair where
  | bc | de | hl | psw
  deriving DecidableEq, Repr

/-- R55: the condition codes. -/
inductive Cond where
  | nz | z | nc | c | po | pe | p | m
  deriving DecidableEq, Repr

/-- R58: the instructions. -/
inductive Instr where
  -- 41_data_transfer
  | movRR (dst src : Reg)
  | movRM (dst : Reg)
  | movMR (src : Reg)
  | mviR (dst : Reg) (imm : Byte)
  | mviM (imm : Byte)
  | lxi (dst : RegPair) (imm : Word)
  | lda (addr : Word)
  | sta (addr : Word)
  | lhld (addr : Word)
  | shld (addr : Word)
  | ldax (pair : RegPair)
  | stax (pair : RegPair)
  | xchg
  -- 42_arithmetic
  | add (src : Operand)
  | adc (src : Operand)
  | sub (src : Operand)
  | sbb (src : Operand)
  | adi (imm : Byte)
  | aci (imm : Byte)
  | sui (imm : Byte)
  | sbi (imm : Byte)
  | inr (dst : Operand)
  | dcr (dst : Operand)
  | inx (pair : RegPair)
  | dcx (pair : RegPair)
  | dad (pair : RegPair)
  | daa
  -- 43_logical
  | ana (src : Operand)
  | xra (src : Operand)
  | ora (src : Operand)
  | cmp (src : Operand)
  | ani (imm : Byte)
  | xri (imm : Byte)
  | ori (imm : Byte)
  | cpi (imm : Byte)
  | rlc
  | rrc
  | ral
  | rar
  | cma
  | stc
  | cmc
  -- 44_branch
  | jmp (target : Word)
  /-- `*JMP`, 0xCB (R125). -/
  | jmpU (target : Word)
  | jnz (target : Word)
  | jz (target : Word)
  | jnc (target : Word)
  | jc (target : Word)
  | jpo (target : Word)
  | jpe (target : Word)
  | jp (target : Word)
  | jm (target : Word)
  | pchl
  | call (target : Word)
  /-- `*CALL`, 0xDD, 0xED, 0xFD for `dup` 1, 2, 3 (R129): `dup` is the opcode's bits 5:4. -/
  | callU (dup : BitVec 2) (target : Word)
  | cnz (target : Word)
  | cz (target : Word)
  | cnc (target : Word)
  | cc (target : Word)
  | cpo (target : Word)
  | cpe (target : Word)
  | cp (target : Word)
  | cm (target : Word)
  | ret
  /-- `*RET`, 0xD9 (R132). -/
  | retU
  | rnz
  | rz
  | rnc
  | rc
  | rpo
  | rpe
  | rp
  | rm
  | rst (n : BitVec 3)
  -- 45_stack_io_control
  | push (pair : StackPair)
  | pop (pair : StackPair)
  | xthl
  | sphl
  | inp (port : Byte)
  | out (port : Byte)
  | ei
  | di
  | hlt
  | nop
  /-- `*NOP`, 0x08 to 0x38 for `dup` 1 to 7 (R146): `dup` is the opcode's bits 5:3. -/
  | nopU (dup : BitVec 3)
  deriving DecidableEq, Repr

end Sys2Proof
end

