-- ==== Sys2Proof/Machine/State.lean ====
section
/-! DEFINITION. The state of the block as plain data (10_state R12 to R29), its value after reset (70_reset R178), and the
reasons a step or a host call can stop. -/

namespace Sys2Proof.Machine

/-- R12: the seven 8-bit general registers. -/
structure Regs where
  a : Byte
  b : Byte
  c : Byte
  d : Byte
  e : Byte
  h : Byte
  l : Byte
  deriving DecidableEq, Repr

/-- R17: the five flags: sign, zero, auxiliary carry, parity, carry. -/
structure Flags where
  s : Bool
  z : Bool
  ac : Bool
  p : Bool
  cy : Bool
  deriving DecidableEq, Repr

/-- R21: the interrupt flip-flops: INTE, IFF (pending), HLTA (halted), EIP (ei_pending). -/
structure Interrupts where
  inte : Bool
  iff : Bool
  hlta : Bool
  eip : Bool
  deriving DecidableEq, Repr

/-- R22: the memory-mapping state, which only the host writes. -/
structure Mapping where
  stackOn : Bool
  stackBank : Nat
  ramMode : Byte
  ramBank : Nat
  deriving DecidableEq, Repr

/-- R23: the sequencer: `machine_cycle`, IR, `len_cur`, `cc`. -/
structure Sequencer where
  mc : Nat
  ir : Byte
  lenCur : Nat
  cc : Nat
  deriving DecidableEq, Repr

/-- R25: the raster timer: the pixel and line counters and the periodic timing signal of the last tick. -/
structure Raster where
  pixel : Nat
  line : Nat
  t50 : Bool
  deriving DecidableEq, Repr

/-- R26: an array of access counters by physical offset, as (offset, count) pairs; an offset not listed counts 0. -/
abbrev CounterArray := List (Nat × Nat)

/-- R26: the access counters RUNCNT, READCNT, WRITECNT. -/
structure Counters where
  run : CounterArray
  read : CounterArray
  write : CounterArray
  deriving DecidableEq, Repr

/-- R27: what the port stub recorded of the last OUT; and, the model's own (log entry 4), how many port reads were made,
which is the argument that gives each of them a free value of its own. -/
structure Ports where
  lastOutPort : Byte
  lastOutValue : Byte
  reads : Nat
  deriving DecidableEq, Repr

/-- R28: the memory image as (physical offset, byte) pairs; an offset not listed holds 0, the image's reset value. -/
abbrev Memory := List Host.Cell


/-- R12 to R28: everything the spec gives the block. The parameters of R7 stand in `config`, which no step changes. -/
structure State where
  regs : Regs
  flags : Flags
  sp : Word
  pc : Word
  intr : Interrupts
  map : Mapping
  seq : Sequencer
  raster : Raster
  counts : Counters
  ports : Ports
  img : Memory
  config : Config
  deriving DecidableEq, Repr

/-- The reasons the block stops with a fault: none. "A model therefore has no fault state for the processor: every step
of every state is defined" (R156), so the type has no constructor (log entry 8). -/
inductive Fault where
  deriving DecidableEq, Repr

/-- What is refused, by name. No step and no instruction refuses (R76); each reason but the first is a refused host call,
which changes no state. All are safe: nothing follows from a refused call. -/
inductive Refusal where
  /-- An instruction without a meaning: raised by an arm of `exec` only, and no arm raises it. Safe. -/
  | notModelled (mnemonic : String)
  /-- R65, R172: a host call between two machine cycles of one instruction. Raised by every host call but `step`. Safe. -/
  | offBoundary
  /-- R37: `set_mapping` with a bank index beyond `NUM_EXT_BANKS`. Raised by `hostSetMapping`. Safe. -/
  | bankIndex
  /-- R179: `load` of a missing or unreadable blob. Raised by `hostLoad`. Safe. -/
  | blobMissing
  /-- R179: `load` of a blob longer than 0xFF00 bytes. Raised by `hostLoad`. Safe. -/
  | blobTooLong
  /-- R166: parameter values that construction does not take. Raised by `construct`, and by `executeInstruction` in a
  state whose cycle table lets no instruction end in 6 machine cycles. Safe. -/
  | parameters
  /-- R170: a frame whose pulse cannot come, since the raster counters never meet (0, 0). Raised by `executeFrame`, in
  states only whose raster position the timer cannot have reached from (0, 0) (log entry 14). Safe. -/
  | noFramePulse
  deriving DecidableEq, Repr

/-- R29, R178: the reset value of every piece of state, for the parameters `c`. -/
def State.resetWith (c : Config) : State where
  regs := { a := 0, b := 0, c := 0, d := 0, e := 0, h := 0, l := 0 }
  flags := { s := false, z := false, ac := false, p := false, cy := false }
  sp := 0
  pc := 0
  intr := { inte := false, iff := false, hlta := false, eip := false }
  map := { stackOn := false, stackBank := 0, ramMode := 0, ramBank := 0 }
  seq := { mc := 0, ir := 0, lenCur := 1, cc := 0 }
  raster := { pixel := c.resetPixel, line := c.resetLine, t50 := false }
  counts := { run := [], read := [], write := [] }
  ports := { lastOutPort := 0, lastOutValue := 0, reads := 0 }
  img := []
  config := c

/-- R178: the block right after reset, with the parameters' defaults. -/
def State.reset : State := State.resetWith Config.default

end Sys2Proof.Machine
end

