-- ==== Sys2Proof/Machine/Sparse.lean ====
section
/-! DEFINITION. Sparse tables: the one representation of the memory image (R28) and of the access counters (R26), a list of
(offset, value) pairs in one canonical form, with the value `dflt` at every offset not listed. -/

namespace Sys2Proof.Machine

/-- What the table holds at offset `n`. -/
def Sparse.lookup {α : Type} (dflt : α) : List (Nat × α) → Nat → α
  | [], _ => dflt
  | e :: t, n => if e.1 = n then e.2 else Sparse.lookup dflt t n

/-- The table without its entries at offset `n`. -/
def Sparse.erase {α : Type} (n : Nat) (t : List (Nat × α)) : List (Nat × α) :=
  t.filter fun e => decide (e.1 ≠ n)

/-- The table with an entry for offset `n` before the first larger offset. -/
def Sparse.insert {α : Type} (n : Nat) (v : α) : List (Nat × α) → List (Nat × α)
  | [] => [(n, v)]
  | e :: t => if n < e.1 then (n, v) :: e :: t else e :: Sparse.insert n v t

/-- Write `v` at offset `n`. Writing the value that an unlisted offset has removes the entry. -/
def Sparse.write {α : Type} [DecidableEq α] (dflt : α) (t : List (Nat × α)) (n : Nat) (v : α) : List (Nat × α) :=
  if v = dflt then Sparse.erase n t else Sparse.insert n v (Sparse.erase n t)

/-- The canonical form: offsets strictly rising, and no entry equal to what an unlisted offset holds. -/
abbrev Sparse.Wf {α : Type} (dflt : α) (t : List (Nat × α)) : Prop :=
  t.Pairwise (fun x y => x.1 < y.1) ∧ ∀ e ∈ t, e.2 ≠ dflt

/-- The canonical form of a memory image: an unlisted offset holds 0 (R28). -/
abbrev Memory.wf (m : Memory) : Prop := Sparse.Wf (0#8) m

/-- The canonical form of a counter array: an unlisted offset counts 0 (R26). -/
abbrev CounterArray.wf (t : CounterArray) : Prop := Sparse.Wf 0 t

end Sys2Proof.Machine
end

