-- ==== Sys2Proof/Machine/Ops.lean ====
section
/-! DEFINITION. The named operations over memory, the stack, the instruction stream and the interrupt: address translation
(R30 to R36), the access primitives and their notifications (R38, R66, R147), Push16 and Pop16 (R135), the restart (R134),
the acceptance of an interrupt (R161) and the return from a handler (R131, R165). -/

namespace Sys2Proof.Machine

/-- R30: the memory address spaces. -/
inductive Space where
  | ram
  | stack
  | global
  deriving DecidableEq, Repr

/-- R147: the kinds of an access notification. -/
inductive AccessKind where
  | run
  | read
  | write
  deriving DecidableEq, Repr

/-! ### Address translation -/

/-- R33: the offset of a 16-bit address in STACK space. -/
def stackOffset (m : Mapping) (a : Nat) : Nat := if m.stackOn then a + m.stackBank * bankSize else a

/-- R34: the offset of a 16-bit address in RAM space. -/
def ramOffset (c : Config) (m : Mapping) (a : Nat) : Nat :=
  if a < 0x8000 ∨ m.ramMode = 0#8 then a
  else if m.ramMode.getLsbD c.bitA000 ∧ 0xA000 ≤ a ∧ a ≤ 0xDFFF then a + m.ramBank * bankSize
  else if m.ramMode.getLsbD c.bit8000 ∧ 0x8000 ≤ a ∧ a ≤ 0x9FFF then a + m.ramBank * bankSize
  else if m.ramMode.getLsbD c.bitE000 ∧ 0xE000 ≤ a ∧ a ≤ 0xFFFF then a + m.ramBank * bankSize
  else a

/-- R31 to R34: the physical offset of an address in a space; RAM and STACK reduce it to 16 bits first (R31). -/
def State.translate (s : State) (addr : Nat) : Space → Nat
  | .ram => ramOffset s.config s.map (addr % 0x10000)
  | .stack => stackOffset s.map (addr % 0x10000)
  | .global => addr % s.config.imageSize

/-! ### Access primitives -/

/-- R28: the byte of the image at a physical offset. -/
def State.byteAt (s : State) (offset : Nat) : Byte := Sparse.lookup (0#8) s.img offset

/-- R38: `read(addr, space)`, with no notification. -/
def State.read (s : State) (addr : Nat) (space : Space) : Byte := s.byteAt (s.translate addr space)

/-- R38: `write(addr, value, space)`, with no notification. -/
def State.write (s : State) (addr : Nat) (v : Byte) (space : Space) : State :=
  { s with img := Sparse.write (0#8) s.img (s.translate addr space) v }

/-- R147: the counter of one offset, one higher. -/
def CounterArray.bump (t : CounterArray) (offset : Nat) : CounterArray :=
  Sparse.write 0 t offset (Sparse.lookup 0 t offset + 1)

/-- R147: the counters after a notification of this kind at a physical offset. -/
def Counters.bump (t : Counters) (kind : AccessKind) (offset : Nat) : Counters :=
  match kind with
  | .run => { t with run := CounterArray.bump t.run offset }
  | .read => { t with read := CounterArray.bump t.read offset }
  | .write => { t with write := CounterArray.bump t.write offset }

/-- R147: `Notify(addr, kind, space)`. -/
def State.notify (s : State) (addr : Nat) (kind : AccessKind) (space : Space) : State :=
  { s with counts := s.counts.bump kind (s.translate addr space) }

/-- R38: `MemRead(addr, 1, space, kind)`: the byte, and the state with the access counted. -/
def State.memRead (s : State) (addr : Word) (space : Space) (kind : AccessKind) : Byte × State :=
  (s.read addr.toNat space, s.notify addr.toNat kind space)

/-- R38: `MemWrite(addr, 1, v, space)`. -/
def State.memWrite (s : State) (addr : Word) (v : Byte) (space : Space) : State :=
  (s.write addr.toNat v space).notify addr.toNat .write space

/-- R66: `Fetch()`: the byte at PC in RAM space, counted as RUN, and PC one further. -/
def State.fetch (s : State) : Byte × State :=
  let r := s.memRead s.pc .ram .run
  (r.1, { r.2 with pc := s.pc + 1 })

/-! ### The stack -/

/-- R135: `Push16(v)`: the high byte at SP - 1, then the low byte at SP - 2, in STACK space. -/
def State.push16 (s : State) (v : Word) : State :=
  let s1 := { s with sp := s.sp - 1 }
  let s2 := s1.memWrite s1.sp (v.extractLsb' 8 8) .stack
  let s3 := { s2 with sp := s2.sp - 1 }
  s3.memWrite s3.sp (v.extractLsb' 0 8) .stack

/-- R135: `Pop16()`: the low byte from SP, then the high byte from SP + 1, in STACK space. -/
def State.pop16 (s : State) : Word × State :=
  let lo := s.memRead s.sp .stack .read
  let s1 := { lo.2 with sp := lo.2.sp + 1 }
  let hi := s1.memRead s1.sp .stack .read
  (hi.1 ++ lo.1, { hi.2 with sp := hi.2.sp + 1 })

/-! ### Restart, interrupt acceptance, return -/

/-- R134: the RST n sequence: push PC, and go to 8 * n. -/
def State.restart (s : State) (n : BitVec 3) : State :=
  { s.push16 s.pc with pc := BitVec.ofNat 16 (8 * n.toNat) }

/-- R161: `Accept()`: the forced RST 7, with nothing fetched; INTE, IFF and HLTA are cleared, PC is pushed, and PC is the
handler's address 0x0038. Nothing else is saved. -/
def State.acceptInterrupt (s : State) : State :=
  State.restart
    { s with
      seq := { s.seq with ir := rst7Opcode }
      intr := { s.intr with inte := false, iff := false, hlta := false } } 7#3

/-- R131, R165: the return from a subroutine or a handler: PC from the stack, and nothing else. -/
def State.returnToCaller (s : State) : State :=
  let r := s.pop16
  { r.2 with pc := r.1 }

end Sys2Proof.Machine
end

