-- ==== Sys2Proof/Machine/Operands.lean ====
section
/-! DEFINITION. The operand forms: registers, the memory operand M, register pairs (R13, R53, R54). -/

namespace Sys2Proof.Machine

/-! ### Registers (R12, R53) -/

/-- R53: the value of a register. -/
def State.reg (s : State) : Reg → Byte
  | .a => s.regs.a
  | .b => s.regs.b
  | .c => s.regs.c
  | .d => s.regs.d
  | .e => s.regs.e
  | .h => s.regs.h
  | .l => s.regs.l

/-- R53: a register written. -/
def Regs.set (r : Regs) (v : Byte) : Reg → Regs
  | .a => { r with a := v }
  | .b => { r with b := v }
  | .c => { r with c := v }
  | .d => { r with d := v }
  | .e => { r with e := v }
  | .h => { r with h := v }
  | .l => { r with l := v }

/-- R53: a register written. -/
def State.setReg (s : State) (r : Reg) (v : Byte) : State := { s with regs := s.regs.set v r }

/-! ### Pairs (R13, R54) -/

/-- R13: `BC = {B, C}`. -/
def State.bc (s : State) : Word := s.regs.b ++ s.regs.c

/-- R13: `DE = {D, E}`. -/
def State.de (s : State) : Word := s.regs.d ++ s.regs.e

/-- R13: `HL = {H, L}`. -/
def State.hl (s : State) : Word := s.regs.h ++ s.regs.l

/-- R13: both halves of BC written. -/
def State.setBc (s : State) (v : Word) : State :=
  { s with regs := { s.regs with b := v.extractLsb' 8 8, c := v.extractLsb' 0 8 } }

/-- R13: both halves of DE written. -/
def State.setDe (s : State) (v : Word) : State :=
  { s with regs := { s.regs with d := v.extractLsb' 8 8, e := v.extractLsb' 0 8 } }

/-- R13: both halves of HL written. -/
def State.setHl (s : State) (v : Word) : State :=
  { s with regs := { s.regs with h := v.extractLsb' 8 8, l := v.extractLsb' 0 8 } }

/-- R54: the value of a register pair of LXI, DAD, INX, DCX, LDAX, STAX. -/
def State.pair (s : State) : RegPair → Word
  | .bc => s.bc
  | .de => s.de
  | .hl => s.hl
  | .sp => s.sp

/-- R54: a register pair written. -/
def State.setPair (s : State) (p : RegPair) (v : Word) : State :=
  match p with
  | .bc => s.setBc v
  | .de => s.setDe v
  | .hl => s.setHl v
  | .sp => { s with sp := v }

/-! ### The memory operand and the operand codes (R53) -/

/-- R53: the memory operand M is the byte at HL in RAM space, read as MemRead. -/
def State.readM (s : State) : Byte × State := s.memRead s.hl .ram .read

/-- R53: M written as MemWrite. -/
def State.writeM (s : State) (v : Byte) : State := s.memWrite s.hl v .ram

/-- R53: the value that an operand code names, without the access of M counted. -/
def State.operandValue (s : State) : Operand → Byte
  | .reg r => s.reg r
  | .m => s.readM.1

/-- R53, R147: the state after an operand is read: M counts one READ. -/
def State.afterOperand (s : State) : Operand → State
  | .reg _ => s
  | .m => s.readM.2

/-- R53: `r[code] <- v`. -/
def State.writeOperand (s : State) (o : Operand) (v : Byte) : State :=
  match o with
  | .reg r => s.setReg r v
  | .m => s.writeM v

end Sys2Proof.Machine
end

