-- ==== Sys2Proof/Machine/Flags.lean ====
section
/-! DEFINITION. The flag computations: parity and the flag byte (R17 to R19), the ALU primitives (R90, R91, R107), increment
and decrement (R101, R102), decimal adjust (R106), the rotates (R116 to R119) and the condition test (R123). -/

namespace Sys2Proof.Machine

/-! ### Parity and the flag byte -/

/-- R18: the number of set bits of a byte. -/
def popcount (x : Byte) : Nat :=
  (x.getLsbD 0).toNat + (x.getLsbD 1).toNat + (x.getLsbD 2).toNat + (x.getLsbD 3).toNat +
  (x.getLsbD 4).toNat + (x.getLsbD 5).toNat + (x.getLsbD 6).toNat + (x.getLsbD 7).toNat

/-- R18: `PARITY[x]`, true when the number of set bits is even. -/
def parity (x : Byte) : Bool := popcount x % 2 == 0

/-- R17: S, Z and P of a result, with AC and CY as given. -/
def Flags.ofResult (r : Byte) (ac cy : Bool) : Flags :=
  { s := r.getLsbD 7, z := r == 0#8, ac := ac, p := parity r, cy := cy }

/-- R19: the flag byte `{S, Z, 0, AC, 0, P, 1, CY}`. -/
def Flags.toByte (f : Flags) : Byte :=
  BitVec.ofBool f.s ++ BitVec.ofBool f.z ++ 0#1 ++ BitVec.ofBool f.ac ++ 0#1 ++ BitVec.ofBool f.p ++ 1#1 ++ BitVec.ofBool f.cy

/-- R13, R137: the flags of a flag byte; its bits 5, 3 and 1 are ignored. -/
def Flags.ofByte (v : Byte) : Flags :=
  { s := v.getLsbD 7, z := v.getLsbD 6, ac := v.getLsbD 4, p := v.getLsbD 2, cy := v.getLsbD 0 }

/-! ### ALU primitives -/

/-- What an ALU primitive gives: the 8-bit result and the flags. -/
structure AluResult where
  r : Byte
  flags : Flags
  deriving DecidableEq, Repr

/-- R90: `ADD8(a, b, cin)`, with carry and half carry from the XOR of the operands and the 9-bit sum. -/
def add8 (a b : Byte) (cin : Bool) : AluResult :=
  let sum : BitVec 9 := a.setWidth 9 + b.setWidth 9 + (BitVec.ofBool cin).setWidth 9
  let x : BitVec 9 := a.setWidth 9 ^^^ b.setWidth 9 ^^^ sum
  let r : Byte := sum.setWidth 8
  { r := r, flags := .ofResult r (x.getLsbD 4) (x.getLsbD 8) }

/-- R91: `SUB8(a, b, bin)`: the complement added with the borrow inverted, then CY inverted back. -/
def sub8 (a b : Byte) (bin : Bool) : AluResult :=
  let t := add8 a (~~~b) (!bin)
  { t with flags := { t.flags with cy := !t.flags.cy } }

/-- R107: the operations of LOGIC8. -/
inductive LogicOp where
  | and
  | xor
  | or
  deriving DecidableEq, Repr

/-- R107: `LOGIC8(op, a, v)`. -/
def logic8 (op : LogicOp) (a v : Byte) : AluResult :=
  match op with
  | .and => { r := a &&& v, flags := .ofResult (a &&& v) ((a ||| v).getLsbD 3) false }
  | .xor => { r := a ^^^ v, flags := .ofResult (a ^^^ v) false false }
  | .or => { r := a ||| v, flags := .ofResult (a ||| v) false false }

/-- R101: the result and flags of INR on `v`; CY stays `cy`. -/
def inr8 (v : Byte) (cy : Bool) : AluResult :=
  let x := v + 1#8
  { r := x, flags := .ofResult x (x.extractLsb' 0 4 == 0#4) cy }

/-- R102: the result and flags of DCR on `v`; CY stays `cy`. -/
def dcr8 (v : Byte) (cy : Bool) : AluResult :=
  let x := v - 1#8
  { r := x, flags := .ofResult x (!(x.extractLsb' 0 4 == 0xF#4)) cy }

/-- R106: the high correction of DAA applies, and CY is set. -/
def daaHigh (a : Byte) (cy : Bool) : Bool :=
  let lsb := (a.extractLsb' 0 4).toNat
  let msb := (a.extractLsb' 4 4).toNat
  cy || decide (msb > 9) || (decide (msb ≥ 9) && decide (lsb > 9))

/-- R106: the correction that DAA adds. -/
def daaCorrection (a : Byte) (ac cy : Bool) : Byte :=
  (if ac || decide ((a.extractLsb' 0 4).toNat > 9) then 0x06#8 else 0#8) +
  (if daaHigh a cy then 0x60#8 else 0#8)

/-- R106: the result and flags of DAA. -/
def daa8 (a : Byte) (ac cy : Bool) : AluResult :=
  let t := add8 a (daaCorrection a ac cy) false
  { t with flags := { t.flags with cy := cy || daaHigh a cy } }

/-! ### Rotates: the rotated byte and the bit for CY -/

/-- R116: RLC. -/
def rotLeft (a : Byte) : Byte × Bool := (a.extractLsb' 0 7 ++ BitVec.ofBool (a.getLsbD 7), a.getLsbD 7)

/-- R117: RRC. -/
def rotRight (a : Byte) : Byte × Bool := (BitVec.ofBool (a.getLsbD 0) ++ a.extractLsb' 1 7, a.getLsbD 0)

/-- R118: RAL. -/
def rotLeftCy (a : Byte) (cy : Bool) : Byte × Bool := (a.extractLsb' 0 7 ++ BitVec.ofBool cy, a.getLsbD 7)

/-- R119: RAR. -/
def rotRightCy (a : Byte) (cy : Bool) : Byte × Bool := (BitVec.ofBool cy ++ a.extractLsb' 1 7, a.getLsbD 0)

/-! ### Conditions -/

/-- R123: `cond(ccc)`. -/
def Flags.test (f : Flags) : Cond → Bool
  | .nz => !f.z
  | .z => f.z
  | .nc => !f.cy
  | .c => f.cy
  | .po => !f.p
  | .pe => f.p
  | .p => !f.s
  | .m => f.s

/-! ### Results written back -/

/-- The accumulator and the flags from an ALU result. -/
def State.setAcc (s : State) (t : AluResult) : State :=
  { s with regs := { s.regs with a := t.r }, flags := t.flags }

/-- The flags from an ALU result, the result discarded (R111). -/
def State.setFlagsOnly (s : State) (t : AluResult) : State := { s with flags := t.flags }

/-- The carry flag alone. -/
def State.setCy (s : State) (cy : Bool) : State := { s with flags := { s.flags with cy := cy } }

/-- R13: `PSW = {A, F}`. -/
def State.psw (s : State) : Word := s.regs.a ++ s.flags.toByte

/-- R13, R137: A and the five flags written from a PSW value. -/
def State.setPsw (s : State) (v : Word) : State :=
  { s with regs := { s.regs with a := v.extractLsb' 8 8 }, flags := .ofByte (v.extractLsb' 0 8) }

/-- R54, R136: the value of a PUSH pair. -/
def State.stackPair (s : State) : StackPair → Word
  | .bc => s.bc
  | .de => s.de
  | .hl => s.hl
  | .psw => s.psw

/-- R54, R137: a POP pair written. -/
def State.setStackPair (s : State) (p : StackPair) (v : Word) : State :=
  match p with
  | .bc => s.setBc v
  | .de => s.setDe v
  | .hl => s.setHl v
  | .psw => s.setPsw v

end Sys2Proof.Machine
end

