-- ==== Sys2Proof/Machine/Arithmetic.lean ====
section
/-! DEFINITION. The arithmetic instructions (42_arithmetic). Each meaning runs after the
instruction's own bytes are fetched, so PC is the address after them (R15, R66). -/

namespace Sys2Proof.Machine

/-- The accumulator form of R93 to R96 and R108 to R110: A from A and the operand; M counts one READ. -/
def accOp (op : Byte → Byte → AluResult) (src : Operand) (s : State) : State :=
  (s.afterOperand src).setAcc (op s.regs.a (s.operandValue src))

/-- R101, R102: an operand is read, its new value and the flags are computed, and it is written back. -/
def stepOp (op : Byte → AluResult) (dst : Operand) (s : State) : State :=
  let t := op (s.operandValue dst)
  ((s.afterOperand dst).setFlagsOnly t).writeOperand dst t.r

/-- R93: ADD r and ADD M. -/
def execAdd (src : Operand) (s : State) : Host.Outcome State Fault Refusal :=
  .next (accOp (fun a v => add8 a v false) src s)

/-- R94: ADC r and ADC M. -/
def execAdc (src : Operand) (s : State) : Host.Outcome State Fault Refusal :=
  .next (accOp (fun a v => add8 a v s.flags.cy) src s)

/-- R95: SUB r and SUB M. -/
def execSub (src : Operand) (s : State) : Host.Outcome State Fault Refusal :=
  .next (accOp (fun a v => sub8 a v false) src s)

/-- R96: SBB r and SBB M. -/
def execSbb (src : Operand) (s : State) : Host.Outcome State Fault Refusal :=
  .next (accOp (fun a v => sub8 a v s.flags.cy) src s)

/-- R97: ADI d8. -/
def execAdi (imm : Byte) (s : State) : Host.Outcome State Fault Refusal :=
  .next (s.setAcc (add8 s.regs.a imm false))

/-- R98: ACI d8. -/
def execAci (imm : Byte) (s : State) : Host.Outcome State Fault Refusal :=
  .next (s.setAcc (add8 s.regs.a imm s.flags.cy))

/-- R99: SUI d8. -/
def execSui (imm : Byte) (s : State) : Host.Outcome State Fault Refusal :=
  .next (s.setAcc (sub8 s.regs.a imm false))

/-- R100: SBI d8. -/
def execSbi (imm : Byte) (s : State) : Host.Outcome State Fault Refusal :=
  .next (s.setAcc (sub8 s.regs.a imm s.flags.cy))

/-- R101: INR r and INR M. -/
def execInr (dst : Operand) (s : State) : Host.Outcome State Fault Refusal :=
  .next (stepOp (fun v => inr8 v s.flags.cy) dst s)

/-- R102: DCR r and DCR M. -/
def execDcr (dst : Operand) (s : State) : Host.Outcome State Fault Refusal :=
  .next (stepOp (fun v => dcr8 v s.flags.cy) dst s)

/-- R103: INX rp. -/
def execInx (pair : RegPair) (s : State) : Host.Outcome State Fault Refusal :=
  .next (s.setPair pair (s.pair pair + 1))

/-- R104: DCX rp. -/
def execDcx (pair : RegPair) (s : State) : Host.Outcome State Fault Refusal :=
  .next (s.setPair pair (s.pair pair - 1))

/-- R105: DAD rp, by the 17-bit sum; CY is its bit 16. -/
def execDad (pair : RegPair) (s : State) : Host.Outcome State Fault Refusal :=
  let sum : BitVec 17 := s.hl.setWidth 17 + (s.pair pair).setWidth 17
  .next ((s.setHl (sum.setWidth 16)).setCy (sum.getLsbD 16))

/-- R106: DAA. -/
def execDaa (s : State) : Host.Outcome State Fault Refusal :=
  .next (s.setAcc (daa8 s.regs.a s.flags.ac s.flags.cy))

end Sys2Proof.Machine
end

