-- ==== Sys2Proof/Machine/Branch.lean ====
section
/-! DEFINITION. The branch, call, return and restart instructions (44_branch). Each meaning runs after the
instruction's own bytes are fetched, so PC is the address after them (R15, R66). -/

namespace Sys2Proof.Machine

/-- R124, R126: PC is the target. -/
def jumpTo (target : Word) (s : State) : State := { s with pc := target }

/-- R126: jump when the condition holds; else PC stays the address after the instruction. -/
def jumpIf (cond : Cond) (target : Word) (s : State) : State := if s.flags.test cond then jumpTo target s else s

/-- R128: push the return address, which PC is once the target's bytes are fetched, and jump. -/
def callTo (target : Word) (s : State) : State := jumpTo target (s.push16 s.pc)

/-- R130: call when the condition holds. -/
def callIf (cond : Cond) (target : Word) (s : State) : State := if s.flags.test cond then callTo target s else s

/-- R133: return when the condition holds. -/
def returnIf (cond : Cond) (s : State) : State := if s.flags.test cond then s.returnToCaller else s

/-- R124: JMP a16. -/
def execJmp (target : Word) (s : State) : Host.Outcome State Fault Refusal :=
  .next (jumpTo target s)

/-- R125: *JMP a16, exactly as JMP. -/
def execJmpU (target : Word) (s : State) : Host.Outcome State Fault Refusal :=
  .next (jumpTo target s)

/-- R126: JNZ a16. -/
def execJnz (target : Word) (s : State) : Host.Outcome State Fault Refusal :=
  .next (jumpIf .nz target s)

/-- R126: JZ a16. -/
def execJz (target : Word) (s : State) : Host.Outcome State Fault Refusal :=
  .next (jumpIf .z target s)

/-- R126: JNC a16. -/
def execJnc (target : Word) (s : State) : Host.Outcome State Fault Refusal :=
  .next (jumpIf .nc target s)

/-- R126: JC a16. -/
def execJc (target : Word) (s : State) : Host.Outcome State Fault Refusal :=
  .next (jumpIf .c target s)

/-- R126: JPO a16. -/
def execJpo (target : Word) (s : State) : Host.Outcome State Fault Refusal :=
  .next (jumpIf .po target s)

/-- R126: JPE a16. -/
def execJpe (target : Word) (s : State) : Host.Outcome State Fault Refusal :=
  .next (jumpIf .pe target s)

/-- R126: JP a16. -/
def execJp (target : Word) (s : State) : Host.Outcome State Fault Refusal :=
  .next (jumpIf .p target s)

/-- R126: JM a16. -/
def execJm (target : Word) (s : State) : Host.Outcome State Fault Refusal :=
  .next (jumpIf .m target s)

/-- R127: PCHL. -/
def execPchl (s : State) : Host.Outcome State Fault Refusal :=
  .next (jumpTo s.hl s)

/-- R128: CALL a16. -/
def execCall (target : Word) (s : State) : Host.Outcome State Fault Refusal :=
  .next (callTo target s)

/-- R129: *CALL a16, exactly as CALL whichever of its three opcodes it has. -/
def execCallU (_dup : BitVec 2) (target : Word) (s : State) : Host.Outcome State Fault Refusal :=
  .next (callTo target s)

/-- R130: CNZ a16. -/
def execCnz (target : Word) (s : State) : Host.Outcome State Fault Refusal :=
  .next (callIf .nz target s)

/-- R130: CZ a16. -/
def execCz (target : Word) (s : State) : Host.Outcome State Fault Refusal :=
  .next (callIf .z target s)

/-- R130: CNC a16. -/
def execCnc (target : Word) (s : State) : Host.Outcome State Fault Refusal :=
  .next (callIf .nc target s)

/-- R130: CC a16. -/
def execCc (target : Word) (s : State) : Host.Outcome State Fault Refusal :=
  .next (callIf .c target s)

/-- R130: CPO a16. -/
def execCpo (target : Word) (s : State) : Host.Outcome State Fault Refusal :=
  .next (callIf .po target s)

/-- R130: CPE a16. -/
def execCpe (target : Word) (s : State) : Host.Outcome State Fault Refusal :=
  .next (callIf .pe target s)

/-- R130: CP a16. -/
def execCp (target : Word) (s : State) : Host.Outcome State Fault Refusal :=
  .next (callIf .p target s)

/-- R130: CM a16. -/
def execCm (target : Word) (s : State) : Host.Outcome State Fault Refusal :=
  .next (callIf .m target s)

/-- R131: RET. -/
def execRet (s : State) : Host.Outcome State Fault Refusal :=
  .next s.returnToCaller

/-- R132: *RET, exactly as RET. -/
def execRetU (s : State) : Host.Outcome State Fault Refusal :=
  .next s.returnToCaller

/-- R133: RNZ. -/
def execRnz (s : State) : Host.Outcome State Fault Refusal :=
  .next (returnIf .nz s)

/-- R133: RZ. -/
def execRz (s : State) : Host.Outcome State Fault Refusal :=
  .next (returnIf .z s)

/-- R133: RNC. -/
def execRnc (s : State) : Host.Outcome State Fault Refusal :=
  .next (returnIf .nc s)

/-- R133: RC. -/
def execRc (s : State) : Host.Outcome State Fault Refusal :=
  .next (returnIf .c s)

/-- R133: RPO. -/
def execRpo (s : State) : Host.Outcome State Fault Refusal :=
  .next (returnIf .po s)

/-- R133: RPE. -/
def execRpe (s : State) : Host.Outcome State Fault Refusal :=
  .next (returnIf .pe s)

/-- R133: RP. -/
def execRp (s : State) : Host.Outcome State Fault Refusal :=
  .next (returnIf .p s)

/-- R133: RM. -/
def execRm (s : State) : Host.Outcome State Fault Refusal :=
  .next (returnIf .m s)

/-- R134: RST n. -/
def execRst (n : BitVec 3) (s : State) : Host.Outcome State Fault Refusal :=
  .next (s.restart n)

end Sys2Proof.Machine
end

