-- ==== Sys2Proof/Machine/DataTransfer.lean ====
section
/-! DEFINITION. The data transfer instructions (41_data_transfer). Each meaning runs after the
instruction's own bytes are fetched, so PC is the address after them (R15, R66). -/

namespace Sys2Proof.Machine

/-- R77: MOV r,r'. -/
def execMovRR (dst src : Reg) (s : State) : Host.Outcome State Fault Refusal :=
  .next (s.setReg dst (s.reg src))

/-- R78: MOV r,M. The read uses HL as it is before the register is written. -/
def execMovRM (dst : Reg) (s : State) : Host.Outcome State Fault Refusal :=
  .next (s.readM.2.setReg dst s.readM.1)

/-- R79: MOV M,r. -/
def execMovMR (src : Reg) (s : State) : Host.Outcome State Fault Refusal :=
  .next (s.writeM (s.reg src))

/-- R80: MVI r,d8. -/
def execMviR (dst : Reg) (imm : Byte) (s : State) : Host.Outcome State Fault Refusal :=
  .next (s.setReg dst imm)

/-- R81: MVI M,d8. -/
def execMviM (imm : Byte) (s : State) : Host.Outcome State Fault Refusal :=
  .next (s.writeM imm)

/-- R82: LXI rp,d16. -/
def execLxi (dst : RegPair) (imm : Word) (s : State) : Host.Outcome State Fault Refusal :=
  .next (s.setPair dst imm)

/-- R83: LDA a16. -/
def execLda (addr : Word) (s : State) : Host.Outcome State Fault Refusal :=
  let r := s.memRead addr .ram .read
  .next (r.2.setReg .a r.1)

/-- R84: STA a16. -/
def execSta (addr : Word) (s : State) : Host.Outcome State Fault Refusal :=
  .next (s.memWrite addr (s.reg .a) .ram)

/-- R85: LHLD a16: L from the address, then H from the next one. -/
def execLhld (addr : Word) (s : State) : Host.Outcome State Fault Refusal :=
  let lo := s.memRead addr .ram .read
  let hi := lo.2.memRead (addr + 1) .ram .read
  .next (hi.2.setHl (hi.1 ++ lo.1))

/-- R86: SHLD a16: L to the address, then H to the next one. -/
def execShld (addr : Word) (s : State) : Host.Outcome State Fault Refusal :=
  .next ((s.memWrite addr (s.reg .l) .ram).memWrite (addr + 1) (s.reg .h) .ram)

/-- R87: LDAX rp. -/
def execLdax (pair : RegPair) (s : State) : Host.Outcome State Fault Refusal :=
  let r := s.memRead (s.pair pair) .ram .read
  .next (r.2.setReg .a r.1)

/-- R88: STAX rp. -/
def execStax (pair : RegPair) (s : State) : Host.Outcome State Fault Refusal :=
  .next (s.memWrite (s.pair pair) (s.reg .a) .ram)

/-- R89: XCHG. -/
def execXchg (s : State) : Host.Outcome State Fault Refusal :=
  .next ((s.setHl s.de).setDe s.hl)

end Sys2Proof.Machine
end

