-- ==== Sys2Proof/Machine/Logical.lean ====
section
/-! DEFINITION. The logical, compare, rotate and flag instructions (43_logical). Each meaning runs after the
instruction's own bytes are fetched, so PC is the address after them (R15, R66). -/

namespace Sys2Proof.Machine

/-- R108: ANA r and ANA M. -/
def execAna (src : Operand) (s : State) : Host.Outcome State Fault Refusal :=
  .next (accOp (logic8 .and) src s)

/-- R109: XRA r and XRA M. -/
def execXra (src : Operand) (s : State) : Host.Outcome State Fault Refusal :=
  .next (accOp (logic8 .xor) src s)

/-- R110: ORA r and ORA M. -/
def execOra (src : Operand) (s : State) : Host.Outcome State Fault Refusal :=
  .next (accOp (logic8 .or) src s)

/-- R111: CMP r and CMP M: the subtraction of R91 with the result discarded. -/
def execCmp (src : Operand) (s : State) : Host.Outcome State Fault Refusal :=
  .next ((s.afterOperand src).setFlagsOnly (sub8 s.regs.a (s.operandValue src) false))

/-- R112: ANI d8. -/
def execAni (imm : Byte) (s : State) : Host.Outcome State Fault Refusal :=
  .next (s.setAcc (logic8 .and s.regs.a imm))

/-- R113: XRI d8. -/
def execXri (imm : Byte) (s : State) : Host.Outcome State Fault Refusal :=
  .next (s.setAcc (logic8 .xor s.regs.a imm))

/-- R114: ORI d8. -/
def execOri (imm : Byte) (s : State) : Host.Outcome State Fault Refusal :=
  .next (s.setAcc (logic8 .or s.regs.a imm))

/-- R115: CPI d8. -/
def execCpi (imm : Byte) (s : State) : Host.Outcome State Fault Refusal :=
  .next (s.setFlagsOnly (sub8 s.regs.a imm false))

/-- R116 to R119: A and CY from a rotate; the other flags stay. -/
def rotated (t : Byte × Bool) (s : State) : State := (s.setReg .a t.1).setCy t.2

/-- R116: RLC. -/
def execRlc (s : State) : Host.Outcome State Fault Refusal :=
  .next (rotated (rotLeft s.regs.a) s)

/-- R117: RRC. -/
def execRrc (s : State) : Host.Outcome State Fault Refusal :=
  .next (rotated (rotRight s.regs.a) s)

/-- R118: RAL. -/
def execRal (s : State) : Host.Outcome State Fault Refusal :=
  .next (rotated (rotLeftCy s.regs.a s.flags.cy) s)

/-- R119: RAR. -/
def execRar (s : State) : Host.Outcome State Fault Refusal :=
  .next (rotated (rotRightCy s.regs.a s.flags.cy) s)

/-- R120: CMA. -/
def execCma (s : State) : Host.Outcome State Fault Refusal :=
  .next (s.setReg .a (~~~s.regs.a))

/-- R121: STC. -/
def execStc (s : State) : Host.Outcome State Fault Refusal :=
  .next (s.setCy true)

/-- R122: CMC. -/
def execCmc (s : State) : Host.Outcome State Fault Refusal :=
  .next (s.setCy (!s.flags.cy))

end Sys2Proof.Machine
end

