-- ==== Sys2Proof/Machine/StackIoControl.lean ====
section
/-! DEFINITION. The stack, input/output and machine-control instructions (45_stack_io_control). Each meaning runs after the
instruction's own bytes are fetched, so PC is the address after them (R15, R66). -/

namespace Sys2Proof.Machine

/-- R136: PUSH rp. -/
def execPush (pair : StackPair) (s : State) : Host.Outcome State Fault Refusal :=
  .next (s.push16 (s.stackPair pair))

/-- R137: POP rp. -/
def execPop (pair : StackPair) (s : State) : Host.Outcome State Fault Refusal :=
  let r := s.pop16
  .next (r.2.setStackPair pair r.1)

/-- R138: XTHL: the four accesses in the order of the rule, then HL; SP stays. -/
def execXthl (s : State) : Host.Outcome State Fault Refusal :=
  let lo := s.memRead s.sp .stack .read
  let hi := lo.2.memRead (s.sp + 1) .stack .read
  let s1 := hi.2.memWrite (s.sp + 1) s.regs.h .stack
  let s2 := s1.memWrite s.sp s.regs.l .stack
  .next (s2.setHl (hi.1 ++ lo.1))

/-- R139: SPHL. -/
def execSphl (s : State) : Host.Outcome State Fault Refusal :=
  .next { s with sp := s.hl }

/-- R140: `PortIn(p)`: the stub's sentinel, or the free value of an external device (log entry 4). -/
def portIn (c : Config) (reads : Nat) (port : Byte) : Byte :=
  match c.portDevice with
  | .stub sentinel => sentinel
  | .external => Config.portIn reads port

/-- R141: `PortOut(p, v)`: the stub records the port and the value; what an external device does is its own (log
entry 5). -/
def portOut (c : Config) (t : Ports) (port v : Byte) : Ports :=
  match c.portDevice with
  | .stub _ => { t with lastOutPort := port, lastOutValue := v }
  | .external => t

/-- R140: IN port. -/
def execIn (port : Byte) (s : State) : Host.Outcome State Fault Refusal :=
  let v := portIn s.config s.ports.reads port
  .next { s.setReg .a v with ports := { s.ports with reads := s.ports.reads + 1 } }

/-- R141: OUT port. -/
def execOut (port : Byte) (s : State) : Host.Outcome State Fault Refusal :=
  .next { s with ports := portOut s.config s.ports port s.regs.a }

/-- R142: EI. -/
def execEi (s : State) : Host.Outcome State Fault Refusal :=
  .next { s with intr := { s.intr with inte := true, eip := true } }

/-- R143: DI. -/
def execDi (s : State) : Host.Outcome State Fault Refusal :=
  .next { s with intr := { s.intr with inte := false } }

/-- R144: HLT. The re-fetch at the next boundary is the sequencer's (R67). -/
def execHlt (s : State) : Host.Outcome State Fault Refusal :=
  .next { s with intr := { s.intr with hlta := true } }

/-- R145: NOP: nothing beyond the fetch. -/
def execNop (s : State) : Host.Outcome State Fault Refusal :=
  .next s

/-- R146: *NOP, exactly as NOP whichever of its seven opcodes it has. -/
def execNopU (_dup : BitVec 3) (s : State) : Host.Outcome State Fault Refusal :=
  .next s

end Sys2Proof.Machine
end

