-- ==== Sys2Proof/Machine/Dispatch.lean ====
section
/-! DEFINITION. Dispatch from instruction to meaning (40_sequencer R70): one arm per constructor, none missing (R76). -/

namespace Sys2Proof.Machine

/-- R70: the meaning of an instruction, run whole (R75) on the state after its bytes are fetched. -/
def exec (i : Instr) (s : State) : Host.Outcome State Fault Refusal :=
  match i with
  -- 41_data_transfer
  | .movRR dst src => Sys2Proof.Machine.execMovRR dst src s
  | .movRM dst => Sys2Proof.Machine.execMovRM dst s
  | .movMR src => Sys2Proof.Machine.execMovMR src s
  | .mviR dst imm => Sys2Proof.Machine.execMviR dst imm s
  | .mviM imm => Sys2Proof.Machine.execMviM imm s
  | .lxi dst imm => Sys2Proof.Machine.execLxi dst imm s
  | .lda addr => Sys2Proof.Machine.execLda addr s
  | .sta addr => Sys2Proof.Machine.execSta addr s
  | .lhld addr => Sys2Proof.Machine.execLhld addr s
  | .shld addr => Sys2Proof.Machine.execShld addr s
  | .ldax pair => Sys2Proof.Machine.execLdax pair s
  | .stax pair => Sys2Proof.Machine.execStax pair s
  | .xchg => Sys2Proof.Machine.execXchg s
  -- 42_arithmetic
  | .add src => Sys2Proof.Machine.execAdd src s
  | .adc src => Sys2Proof.Machine.execAdc src s
  | .sub src => Sys2Proof.Machine.execSub src s
  | .sbb src => Sys2Proof.Machine.execSbb src s
  | .adi imm => Sys2Proof.Machine.execAdi imm s
  | .aci imm => Sys2Proof.Machine.execAci imm s
  | .sui imm => Sys2Proof.Machine.execSui imm s
  | .sbi imm => Sys2Proof.Machine.execSbi imm s
  | .inr dst => Sys2Proof.Machine.execInr dst s
  | .dcr dst => Sys2Proof.Machine.execDcr dst s
  | .inx pair => Sys2Proof.Machine.execInx pair s
  | .dcx pair => Sys2Proof.Machine.execDcx pair s
  | .dad pair => Sys2Proof.Machine.execDad pair s
  | .daa => Sys2Proof.Machine.execDaa s
  -- 43_logical
  | .ana src => Sys2Proof.Machine.execAna src s
  | .xra src => Sys2Proof.Machine.execXra src s
  | .ora src => Sys2Proof.Machine.execOra src s
  | .cmp src => Sys2Proof.Machine.execCmp src s
  | .ani imm => Sys2Proof.Machine.execAni imm s
  | .xri imm => Sys2Proof.Machine.execXri imm s
  | .ori imm => Sys2Proof.Machine.execOri imm s
  | .cpi imm => Sys2Proof.Machine.execCpi imm s
  | .rlc => Sys2Proof.Machine.execRlc s
  | .rrc => Sys2Proof.Machine.execRrc s
  | .ral => Sys2Proof.Machine.execRal s
  | .rar => Sys2Proof.Machine.execRar s
  | .cma => Sys2Proof.Machine.execCma s
  | .stc => Sys2Proof.Machine.execStc s
  | .cmc => Sys2Proof.Machine.execCmc s
  -- 44_branch
  | .jmp target => Sys2Proof.Machine.execJmp target s
  | .jmpU target => Sys2Proof.Machine.execJmpU target s
  | .jnz target => Sys2Proof.Machine.execJnz target s
  | .jz target => Sys2Proof.Machine.execJz target s
  | .jnc target => Sys2Proof.Machine.execJnc target s
  | .jc target => Sys2Proof.Machine.execJc target s
  | .jpo target => Sys2Proof.Machine.execJpo target s
  | .jpe target => Sys2Proof.Machine.execJpe target s
  | .jp target => Sys2Proof.Machine.execJp target s
  | .jm target => Sys2Proof.Machine.execJm target s
  | .pchl => Sys2Proof.Machine.execPchl s
  | .call target => Sys2Proof.Machine.execCall target s
  | .callU dup target => Sys2Proof.Machine.execCallU dup target s
  | .cnz target => Sys2Proof.Machine.execCnz target s
  | .cz target => Sys2Proof.Machine.execCz target s
  | .cnc target => Sys2Proof.Machine.execCnc target s
  | .cc target => Sys2Proof.Machine.execCc target s
  | .cpo target => Sys2Proof.Machine.execCpo target s
  | .cpe target => Sys2Proof.Machine.execCpe target s
  | .cp target => Sys2Proof.Machine.execCp target s
  | .cm target => Sys2Proof.Machine.execCm target s
  | .ret => Sys2Proof.Machine.execRet s
  | .retU => Sys2Proof.Machine.execRetU s
  | .rnz => Sys2Proof.Machine.execRnz s
  | .rz => Sys2Proof.Machine.execRz s
  | .rnc => Sys2Proof.Machine.execRnc s
  | .rc => Sys2Proof.Machine.execRc s
  | .rpo => Sys2Proof.Machine.execRpo s
  | .rpe => Sys2Proof.Machine.execRpe s
  | .rp => Sys2Proof.Machine.execRp s
  | .rm => Sys2Proof.Machine.execRm s
  | .rst n => Sys2Proof.Machine.execRst n s
  -- 45_stack_io_control
  | .push pair => Sys2Proof.Machine.execPush pair s
  | .pop pair => Sys2Proof.Machine.execPop pair s
  | .xthl => Sys2Proof.Machine.execXthl s
  | .sphl => Sys2Proof.Machine.execSphl s
  | .inp port => Sys2Proof.Machine.execIn port s
  | .out port => Sys2Proof.Machine.execOut port s
  | .ei => Sys2Proof.Machine.execEi s
  | .di => Sys2Proof.Machine.execDi s
  | .hlt => Sys2Proof.Machine.execHlt s
  | .nop => Sys2Proof.Machine.execNop s
  | .nopU dup => Sys2Proof.Machine.execNopU dup s

end Sys2Proof.Machine
end

