-- ==== Sys2Proof/Machine/RasterTimer.lean ====
section
/-! DEFINITION. The raster timer (60_exceptions R166, R167): pixel and line counters, and the frame pulse t50. -/

namespace Sys2Proof.Machine

/-- R167: the counters after one tick, with t50 true exactly when both are 0. -/
def Raster.next (c : Config) (r : Raster) : Raster :=
  let px := r.pixel + c.pixelQuantum
  let pixel := if px ≥ c.framePixels then px - c.framePixels else px
  let line := if px ≥ c.framePixels then (r.line + 1) % c.frameLines else r.line
  { pixel := pixel, line := line, t50 := pixel == 0 && line == 0 }

/-- R167: `RasterTick()`. -/
def State.rasterTick (s : State) : State := { s with raster := s.raster.next s.config }

end Sys2Proof.Machine
end

