-- ==== Sys2Proof/WellFormed.lean ====
section
/-! DEFINITION. Which terms of Instr are instructions of the block: the operand limits that Syntax does not state. -/

namespace Sys2Proof

/-- R87, R88: LDAX and STAX have the pairs BC and DE only. -/
def RegPair.isIndex : RegPair → Bool
  | .bc | .de => true
  | .hl | .sp => false

/-- The operand limits: R87 and R88 for LDAX and STAX, R146 for `*NOP` (bits 5:3 are not 0, which is NOP), R129 for
`*CALL` (bits 5:4 are not 0, which is CALL). Every other term is an instruction. -/
def Instr.wellFormed : Instr → Bool
  | .ldax pair => pair.isIndex
  | .stax pair => pair.isIndex
  | .callU dup _ => dup != 0#2
  | .nopU dup => dup != 0#3
  | .movRR _ _ | .movRM _ | .movMR _ | .mviR _ _ | .mviM _ | .lxi _ _ | .lda _ | .sta _ | .lhld _ | .shld _ | .xchg => true
  | .add _ | .adc _ | .sub _ | .sbb _ | .adi _ | .aci _ | .sui _ | .sbi _ | .inr _ | .dcr _ => true
  | .inx _ | .dcx _ | .dad _ | .daa => true
  | .ana _ | .xra _ | .ora _ | .cmp _ | .ani _ | .xri _ | .ori _ | .cpi _ => true
  | .rlc | .rrc | .ral | .rar | .cma | .stc | .cmc => true
  | .jmp _ | .jmpU _ | .jnz _ | .jz _ | .jnc _ | .jc _ | .jpo _ | .jpe _ | .jp _ | .jm _ | .pchl => true
  | .call _ | .cnz _ | .cz _ | .cnc _ | .cc _ | .cpo _ | .cpe _ | .cp _ | .cm _ => true
  | .ret | .retU | .rnz | .rz | .rnc | .rc | .rpo | .rpe | .rp | .rm | .rst _ => true
  | .push _ | .pop _ | .xthl | .sphl | .inp _ | .out _ | .ei | .di | .hlt | .nop => true

end Sys2Proof
end

