-- ==== Sys2Proof/Decode.lean ====
section
/-! DEFINITION. Decoding and encoding (30_encoding R51 to R61). The opcode byte alone selects the instruction and its
length; no opcode is illegal (R60), so decoding refuses only a byte string that ends too early. -/

namespace Sys2Proof

/-! ### Fields of the opcode byte (R52) -/

/-- R52: bits 7:6, which quarter of the map (R58) the opcode lies in. -/
def opQuarter (op : Byte) : BitVec 2 := op.extractLsb' 6 2

/-- R52: bits 5:3, the field `ddd`, `ccc`, `aaa` or `nnn`. -/
def opMid (op : Byte) : BitVec 3 := op.extractLsb' 3 3

/-- R52: bits 2:0, the field `sss`. -/
def opLow (op : Byte) : BitVec 3 := op.extractLsb' 0 3

/-- R52: bits 5:4, the field `pp`. -/
def opPair (op : Byte) : BitVec 2 := op.extractLsb' 4 2

/-- R53: what a register code names. -/
def operandOf (code : BitVec 3) : Operand :=
  match code.toNat with
  | 0 => .reg .b
  | 1 => .reg .c
  | 2 => .reg .d
  | 3 => .reg .e
  | 4 => .reg .h
  | 5 => .reg .l
  | 6 => .m
  | _ => .reg .a

/-- R54: the pair codes of LXI, DAD, INX, DCX, LDAX, STAX. -/
def regPairOf (code : BitVec 2) : RegPair :=
  match code.toNat with
  | 0 => .bc
  | 1 => .de
  | 2 => .hl
  | _ => .sp

/-- R54: the pair codes of PUSH and POP. -/
def stackPairOf (code : BitVec 2) : StackPair :=
  match code.toNat with
  | 0 => .bc
  | 1 => .de
  | 2 => .hl
  | _ => .psw

/-- R55: the condition codes. -/
def condOf (code : BitVec 3) : Cond :=
  match code.toNat with
  | 0 => .nz
  | 1 => .z
  | 2 => .nc
  | 3 => .c
  | 4 => .po
  | 5 => .pe
  | 6 => .p
  | _ => .m

/-! ### Instruction length (R51) -/

/-- R51, R148: `LEN[op]`, the length table of the fetch path and of the disassembler. -/
def lenOf (op : Byte) : Nat :=
  match (opQuarter op).toNat, (opLow op).toNat with
  | 0, 6 => 2                                                              -- MVI
  | 0, 1 => if (opMid op).getLsbD 0 then 1 else 3                          -- DAD, LXI
  | 0, 2 => if (opMid op).toNat < 4 then 1 else 3                          -- STAX LDAX, SHLD LHLD STA LDA
  | 3, 2 => 3                                                              -- Jccc
  | 3, 3 => if (opMid op).toNat < 2 then 3 else if (opMid op).toNat < 4 then 2 else 1   -- JMP *JMP, OUT IN, the rest
  | 3, 4 => 3                                                              -- Cccc
  | 3, 5 => if (opMid op).getLsbD 0 then 3 else 1                          -- CALL *CALL, PUSH
  | 3, 6 => 2                                                              -- ADI .. CPI
  | _, _ => 1

/-! ### The opcode map (R58) -/

/-- R58, rows 0x to 3x. -/
def instrOfRow0 (op b2 b3 : Byte) : Instr :=
  match (opLow op).toNat with
  | 0 => if opMid op = 0#3 then .nop else .nopU (opMid op)
  | 1 => if (opMid op).getLsbD 0 then .dad (regPairOf (opPair op)) else .lxi (regPairOf (opPair op)) (b3 ++ b2)
  | 2 =>
    match (opMid op).toNat with
    | 0 => .stax .bc
    | 1 => .ldax .bc
    | 2 => .stax .de
    | 3 => .ldax .de
    | 4 => .shld (b3 ++ b2)
    | 5 => .lhld (b3 ++ b2)
    | 6 => .sta (b3 ++ b2)
    | _ => .lda (b3 ++ b2)
  | 3 => if (opMid op).getLsbD 0 then .dcx (regPairOf (opPair op)) else .inx (regPairOf (opPair op))
  | 4 => .inr (operandOf (opMid op))
  | 5 => .dcr (operandOf (opMid op))
  | 6 =>
    match operandOf (opMid op) with
    | .reg r => .mviR r b2
    | .m => .mviM b2
  | _ =>
    match (opMid op).toNat with
    | 0 => .rlc
    | 1 => .rrc
    | 2 => .ral
    | 3 => .rar
    | 4 => .daa
    | 5 => .cma
    | 6 => .stc
    | _ => .cmc

/-- R58, rows 4x to 7x: MOV, and HLT in the place of MOV M,M. -/
def instrOfMov (op : Byte) : Instr :=
  match operandOf (opMid op), operandOf (opLow op) with
  | .reg dst, .reg src => .movRR dst src
  | .reg dst, .m => .movRM dst
  | .m, .reg src => .movMR src
  | .m, .m => .hlt

/-- R56, R58, rows 8x to Bx: the accumulator operations on `r[sss]`. -/
def instrOfAlu (op : Byte) : Instr :=
  let src := operandOf (opLow op)
  match (opMid op).toNat with
  | 0 => .add src
  | 1 => .adc src
  | 2 => .sub src
  | 3 => .sbb src
  | 4 => .ana src
  | 5 => .xra src
  | 6 => .ora src
  | _ => .cmp src

/-- R58, column 2 of rows Cx to Fx: the conditional jumps. -/
def jumpOn (cond : Cond) (target : Word) : Instr :=
  match cond with
  | .nz => .jnz target
  | .z => .jz target
  | .nc => .jnc target
  | .c => .jc target
  | .po => .jpo target
  | .pe => .jpe target
  | .p => .jp target
  | .m => .jm target

/-- R58, column 4 of rows Cx to Fx: the conditional calls. -/
def callOn (cond : Cond) (target : Word) : Instr :=
  match cond with
  | .nz => .cnz target
  | .z => .cz target
  | .nc => .cnc target
  | .c => .cc target
  | .po => .cpo target
  | .pe => .cpe target
  | .p => .cp target
  | .m => .cm target

/-- R58, column 0 of rows Cx to Fx: the conditional returns. -/
def returnOn (cond : Cond) : Instr :=
  match cond with
  | .nz => .rnz
  | .z => .rz
  | .nc => .rnc
  | .c => .rc
  | .po => .rpo
  | .pe => .rpe
  | .p => .rp
  | .m => .rm

/-- R58, rows Cx to Fx. -/
def instrOfRow3 (op b2 b3 : Byte) : Instr :=
  match (opLow op).toNat with
  | 0 => returnOn (condOf (opMid op))
  | 1 =>
    match (opMid op).toNat with
    | 1 => .ret
    | 3 => .retU
    | 5 => .pchl
    | 7 => .sphl
    | _ => .pop (stackPairOf (opPair op))
  | 2 => jumpOn (condOf (opMid op)) (b3 ++ b2)
  | 3 =>
    match (opMid op).toNat with
    | 0 => .jmp (b3 ++ b2)
    | 1 => .jmpU (b3 ++ b2)
    | 2 => .out b2
    | 3 => .inp b2
    | 4 => .xthl
    | 5 => .xchg
    | 6 => .di
    | _ => .ei
  | 4 => callOn (condOf (opMid op)) (b3 ++ b2)
  | 5 =>
    match (opMid op).toNat with
    | 1 => .call (b3 ++ b2)
    | 3 => .callU 1#2 (b3 ++ b2)
    | 5 => .callU 2#2 (b3 ++ b2)
    | 7 => .callU 3#2 (b3 ++ b2)
    | _ => .push (stackPairOf (opPair op))
  | 6 =>
    match (opMid op).toNat with
    | 0 => .adi b2
    | 1 => .aci b2
    | 2 => .sui b2
    | 3 => .sbi b2
    | 4 => .ani b2
    | 5 => .xri b2
    | 6 => .ori b2
    | _ => .cpi b2
  | _ => .rst (opMid op)

/-- R58, R60: the instruction of an opcode byte and the two bytes after it; an instruction of length n reads the
first n - 1 of them (R52, R57). Total on every opcode. -/
def instrOf (op b2 b3 : Byte) : Instr :=
  match (opQuarter op).toNat with
  | 0 => instrOfRow0 op b2 b3
  | 1 => instrOfMov op
  | 2 => instrOfAlu op
  | _ => instrOfRow3 op b2 b3

/-- What the decoder refuses, by name: a byte string that ends before the instruction does (R51). -/
inductive DecodeError where
  /-- There is no opcode byte. -/
  | noBytes
  /-- The instruction of this opcode is longer than the bytes given. -/
  | truncated (op : Byte)
  deriving DecidableEq, Repr

/-- The decoder's answer: an instruction and the bytes after it, or a refusal by name. -/
inductive Decoded where
  | ok (i : Instr) (rest : List Byte)
  | error (e : DecodeError)
  deriving DecidableEq, Repr

/-- R51, R60, R61: decode the first instruction of a byte string. -/
def decode : List Byte → Decoded
  | [] => .error .noBytes
  | op :: rest =>
    match lenOf op, rest with
    | 1, rest => .ok (instrOf op 0#8 0#8) rest
    | 2, b2 :: rest => .ok (instrOf op b2 0#8) rest
    | _, b2 :: b3 :: rest => .ok (instrOf op b2 b3) rest
    | _, _ => .error (.truncated op)

/-! ### The encoder (R52 to R58) -/

/-- R53: the code of a register. -/
def Reg.code : Reg → BitVec 3
  | .b => 0#3
  | .c => 1#3
  | .d => 2#3
  | .e => 3#3
  | .h => 4#3
  | .l => 5#3
  | .a => 7#3

/-- R53: the code of an operand. -/
def Operand.code : Operand → BitVec 3
  | .reg r => r.code
  | .m => 6#3

/-- R54: the code of a register pair. -/
def RegPair.code : RegPair → BitVec 2
  | .bc => 0#2
  | .de => 1#2
  | .hl => 2#2
  | .sp => 3#2

/-- R54: the code of a PUSH or POP pair. -/
def StackPair.code : StackPair → BitVec 2
  | .bc => 0#2
  | .de => 1#2
  | .hl => 2#2
  | .psw => 3#2

/-- R58: the opcode byte of an instruction, from the encoding that its own rule gives. -/
def Instr.opcode : Instr → Byte
  | .movRR dst src => 0b01#2 ++ dst.code ++ src.code
  | .movRM dst => 0b01#2 ++ dst.code ++ 0b110#3
  | .movMR src => 0b01110#5 ++ src.code
  | .mviR dst _ => 0b00#2 ++ dst.code ++ 0b110#3
  | .mviM _ => 0x36#8
  | .lxi pair _ => 0b00#2 ++ pair.code ++ 0b0001#4
  | .lda _ => 0x3A#8
  | .sta _ => 0x32#8
  | .lhld _ => 0x2A#8
  | .shld _ => 0x22#8
  | .ldax pair => 0b00#2 ++ pair.code ++ 0b1010#4
  | .stax pair => 0b00#2 ++ pair.code ++ 0b0010#4
  | .xchg => 0xEB#8
  | .add src => 0b10000#5 ++ src.code
  | .adc src => 0b10001#5 ++ src.code
  | .sub src => 0b10010#5 ++ src.code
  | .sbb src => 0b10011#5 ++ src.code
  | .adi _ => 0xC6#8
  | .aci _ => 0xCE#8
  | .sui _ => 0xD6#8
  | .sbi _ => 0xDE#8
  | .inr dst => 0b00#2 ++ dst.code ++ 0b100#3
  | .dcr dst => 0b00#2 ++ dst.code ++ 0b101#3
  | .inx pair => 0b00#2 ++ pair.code ++ 0b0011#4
  | .dcx pair => 0b00#2 ++ pair.code ++ 0b1011#4
  | .dad pair => 0b00#2 ++ pair.code ++ 0b1001#4
  | .daa => 0x27#8
  | .ana src => 0b10100#5 ++ src.code
  | .xra src => 0b10101#5 ++ src.code
  | .ora src => 0b10110#5 ++ src.code
  | .cmp src => 0b10111#5 ++ src.code
  | .ani _ => 0xE6#8
  | .xri _ => 0xEE#8
  | .ori _ => 0xF6#8
  | .cpi _ => 0xFE#8
  | .rlc => 0x07#8
  | .rrc => 0x0F#8
  | .ral => 0x17#8
  | .rar => 0x1F#8
  | .cma => 0x2F#8
  | .stc => 0x37#8
  | .cmc => 0x3F#8
  | .jmp _ => 0xC3#8
  | .jmpU _ => 0xCB#8
  | .jnz _ => 0xC2#8
  | .jz _ => 0xCA#8
  | .jnc _ => 0xD2#8
  | .jc _ => 0xDA#8
  | .jpo _ => 0xE2#8
  | .jpe _ => 0xEA#8
  | .jp _ => 0xF2#8
  | .jm _ => 0xFA#8
  | .pchl => 0xE9#8
  | .call _ => 0xCD#8
  | .callU dup _ => 0b11#2 ++ dup ++ 0b1101#4
  | .cnz _ => 0xC4#8
  | .cz _ => 0xCC#8
  | .cnc _ => 0xD4#8
  | .cc _ => 0xDC#8
  | .cpo _ => 0xE4#8
  | .cpe _ => 0xEC#8
  | .cp _ => 0xF4#8
  | .cm _ => 0xFC#8
  | .ret => 0xC9#8
  | .retU => 0xD9#8
  | .rnz => 0xC0#8
  | .rz => 0xC8#8
  | .rnc => 0xD0#8
  | .rc => 0xD8#8
  | .rpo => 0xE0#8
  | .rpe => 0xE8#8
  | .rp => 0xF0#8
  | .rm => 0xF8#8
  | .rst n => 0b11#2 ++ n ++ 0b111#3
  | .push pair => 0b11#2 ++ pair.code ++ 0b0101#4
  | .pop pair => 0b11#2 ++ pair.code ++ 0b0001#4
  | .xthl => 0xE3#8
  | .sphl => 0xF9#8
  | .inp _ => 0xDB#8
  | .out _ => 0xD3#8
  | .ei => 0xFB#8
  | .di => 0xF3#8
  | .hlt => 0x76#8
  | .nop => 0x00#8
  | .nopU dup => 0b00#2 ++ dup ++ 0b000#3

/-- R52, R57: a 16-bit immediate as it stands in memory, low byte first. -/
def immBytes (v : Word) : List Byte := [v.extractLsb' 0 8, v.extractLsb' 8 8]

/-- R52, R57: the bytes after the opcode byte. -/
def Instr.operandBytes : Instr → List Byte
  | .mviR _ imm | .mviM imm => [imm]
  | .adi imm | .aci imm | .sui imm | .sbi imm | .ani imm | .xri imm | .ori imm | .cpi imm => [imm]
  | .inp port | .out port => [port]
  | .lxi _ imm => immBytes imm
  | .lda a | .sta a | .lhld a | .shld a => immBytes a
  | .jmp a | .jmpU a | .jnz a | .jz a | .jnc a | .jc a | .jpo a | .jpe a | .jp a | .jm a => immBytes a
  | .call a | .callU _ a | .cnz a | .cz a | .cnc a | .cc a | .cpo a | .cpe a | .cp a | .cm a => immBytes a
  | .movRR _ _ | .movRM _ | .movMR _ | .ldax _ | .stax _ | .xchg => []
  | .add _ | .adc _ | .sub _ | .sbb _ | .inr _ | .dcr _ | .inx _ | .dcx _ | .dad _ | .daa => []
  | .ana _ | .xra _ | .ora _ | .cmp _ | .rlc | .rrc | .ral | .rar | .cma | .stc | .cmc => []
  | .pchl | .ret | .retU | .rnz | .rz | .rnc | .rc | .rpo | .rpe | .rp | .rm | .rst _ => []
  | .push _ | .pop _ | .xthl | .sphl | .ei | .di | .hlt | .nop | .nopU _ => []

/-- R52: the bytes of an instruction, in the order of their addresses. -/
def encode (i : Instr) : List Byte := i.opcode :: i.operandBytes

/-! ### The table's words -/

/-- The three bytes of a table word: bit 0 is the least significant bit of the first byte, and every bit from `nbits`
on is 0. -/
def tableBytes (nbits w : Nat) : List Byte :=
  let v := w % 2 ^ nbits
  [BitVec.ofNat 8 v, BitVec.ofNat 8 (v / 2 ^ 8), BitVec.ofNat 8 (v / 2 ^ 16)]

/-- The instruction that the decoder reads from a table word. -/
def decodeTableWord (nbits w : Nat) : Option Instr :=
  match decode (tableBytes nbits w) with
  | .ok i _ => some i
  | .error _ => none

end Sys2Proof
end

