-- ==== Sys2Proof/Machine/Sequencer.lean ====
section
/-! DEFINITION. The parts of the machine-cycle engine (40_sequencer R64 to R71; 60_exceptions R159 to R162): the request
latch, the acceptance test, the halt re-fetch, fetching an instruction, its length in machine cycles, and the end of a
machine cycle. -/

namespace Sys2Proof.Machine

/-- R159: `Latch(line)`. -/
def State.latch (s : State) (line : Bool) : State :=
  if line && (s.intr.inte || s.config.irqLatch == .ungated) then { s with intr := { s.intr with iff := true } } else s

/-- R160: at a boundary, after the latch, an interrupt is accepted. -/
def State.accepts (s : State) : Bool := s.intr.iff && s.intr.inte && !s.intr.eip

/-- R67: the address the next opcode is fetched from: one back when the last instruction was HLT. -/
def State.fetchAddr (s : State) : Word := if s.intr.hlta then s.pc - 1 else s.pc

/-- R64, R67, R162: a boundary that does not accept clears EIP and HLTA, with PC one back after HLT. -/
def State.beginFetch (s : State) : State :=
  { s with pc := s.fetchAddr, intr := { s.intr with eip := false, hlta := false } }

/-- R64, R66: the opcode fetched into IR. -/
def State.fetchOpcode (s : State) : State :=
  let r := s.fetch
  { r.2 with seq := { r.2.seq with ir := r.1 } }

/-- R51, R66: the instruction at PC, its `LEN[op]` bytes fetched through PC in address order (R49, R74). -/
def State.fetchInstr (s : State) : Instr × State :=
  let s1 := s.fetchOpcode
  match lenOf s1.seq.ir with
  | 1 => (instrOf s1.seq.ir 0#8 0#8, s1)
  | 2 =>
    let b2 := s1.fetch
    (instrOf s1.seq.ir b2.1 0#8, b2.2)
  | _ =>
    let b2 := s1.fetch
    let b3 := b2.2.fetch
    (instrOf s1.seq.ir b2.1 b3.1, b3.2)

/-- R71: the opcode is a conditional call or a conditional return. -/
def mayCollapse (op : Byte) : Bool := opQuarter op == 3#2 && (opLow op == 0#3 || opLow op == 4#3)

/-- R71: `Length(op)`, the machine cycles of the instruction, from the flags at its mc 0. -/
def instrCycles (c : Config) (f : Flags) (op : Byte) : Nat :=
  if mayCollapse op && !f.test (condOf (opMid op)) then c.cyclesNTOf op else c.cyclesOf op

/-- R64, R71: `len_cur <- Length(IR)`. -/
def State.setLength (s : State) : State :=
  { s with seq := { s.seq with lenCur := instrCycles s.config s.flags s.seq.ir } }

/-- R64, R69: the end of a machine cycle: `machine_cycle` one further modulo `len_cur`, `cc` four further. -/
def State.endCycle (s : State) : State :=
  { s with seq := { s.seq with mc := (s.seq.mc + 1) % s.seq.lenCur, cc := s.seq.cc + ticksPerMc } }

/-- R65: the state lies between two instructions. -/
def State.atBoundary (s : State) : Bool := s.seq.mc == 0

/-- R60, R66: the state with an instruction's three bytes placed where the next boundary fetches, the next step made a
boundary, and the acceptance of an interrupt put off by EIP when INTE would allow one. For `withFetchWord`. -/
def State.placeBytes (s : State) (bytes : List Byte) : State :=
  let a := s.fetchAddr
  let s1 := { s with seq := { s.seq with mc := 0 }, intr := { s.intr with eip := s.intr.eip || s.intr.inte } }
  ((s1.write a.toNat (bytes.getD 0 0#8) .ram).write (a + 1).toNat (bytes.getD 1 0#8) .ram).write
    (a + 2).toNat (bytes.getD 2 0#8) .ram

end Sys2Proof.Machine
end

