-- ==== Sys2Proof/Machine/Step.lean ====
section
/-! DEFINITION. One step of the block: a raster tick, then one machine cycle of the processor with the tick's signal as the
request line (60_exceptions R169; 40_sequencer R64). An instruction is run whole in its first machine cycle and the others
count, which R75 allows (log entry 1). -/

namespace Sys2Proof.Machine

/-- R64: `step(line)`, one machine cycle of the processor: the latch; at a boundary the forced RST 7, or the fetch and
the instruction; else counting. -/
def procStep (line : Bool) (s : State) : Host.Outcome State Fault Refusal :=
  if (s.latch line).atBoundary then
    if (s.latch line).accepts then .next (s.latch line).acceptInterrupt.setLength.endCycle
    else
      match exec (s.latch line).beginFetch.fetchInstr.1 (s.latch line).beginFetch.fetchInstr.2.setLength with
      | .next t => .next t.endCycle
      | .fault r => .fault r
      | .refused r => .refused r
  else .next (s.latch line).endCycle

/-- R169: one raster tick, then one processor step with t50 as its request line. -/
def step (s : State) : Host.Outcome State Fault Refusal := procStep s.rasterTick.raster.t50 s.rasterTick

/-- The state with a table word's instruction where the next step fetches (log entry 7). -/
def State.withFetchWord (s : State) (nbits w : Nat) : State := s.placeBytes (tableBytes nbits w)

end Sys2Proof.Machine
end

