-- ==== Sys2Proof/Machine/Orchestrator.lean ====
section
/-! DEFINITION. The orchestrator (60_exceptions R169, R170): whole instructions and whole frames, as calls of the step. -/

namespace Sys2Proof.Machine

/-- R169: the loop of `execute_instruction`, at most `fuel` machine cycles: the state at the next boundary, and whether
t50 was true on one of the ticks. -/
def runCycles : Nat → Bool → State → Host.Outcome (State × Bool) Fault Refusal
  | 0, _, _ => .refused .parameters
  | fuel + 1, fired, s =>
    match step s with
    | .next t =>
      if t.atBoundary then .next (t, fired || t.raster.t50) else runCycles fuel (fired || t.raster.t50) t
    | .fault r => .fault r
    | .refused r => .refused r

/-- R169, R172: `execute_instruction()`: one instruction with its raster ticks, and whether t50 fired. No instruction
takes more than 6 machine cycles (R23, R76). -/
def executeInstruction (s : State) : Host.Outcome (State × Bool) Fault Refusal :=
  if s.atBoundary then runCycles 6 false s else .refused .offBoundary

/-- R170: the loop of `execute_frame`, at most `fuel` instructions. -/
def runInstructions : Nat → State → Host.Outcome State Fault Refusal
  | 0, _ => .refused .noFramePulse
  | fuel + 1, s =>
    match executeInstruction s with
    | .next r => if r.2 then .next r.1 else runInstructions fuel r.1
    | .fault r => .fault r
    | .refused r => .refused r

/-- R170, R172: `execute_frame()`: instructions until t50 fired. An instruction ticks at least once, so a frame has at most
`frameTicks` of them (log entry 14). -/
def executeFrame (s : State) : Host.Outcome State Fault Refusal :=
  if s.atBoundary then runInstructions s.config.frameTicks s else .refused .offBoundary

end Sys2Proof.Machine
end

