-- ==== Sys2Proof/Machine/HostInterface.lean ====
section
/-! DEFINITION. The host's operations (60_exceptions R172; 20_memory R37, R40; 70_reset R178, R179): each is performed whole
at a boundary and refused elsewhere. `procStep` is the host's `step(line)`, `executeInstruction` and `executeFrame` stand
in Orchestrator.lean, and the disassembler's reads in Disassembler.lean. -/

namespace Sys2Proof.Machine

/-- R65, R172: an operation at a boundary; between two machine cycles of one instruction it is refused. -/
def atBoundaryOnly {α : Type} (s : State) (r : Host.Outcome α Fault Refusal) : Host.Outcome α Fault Refusal :=
  if s.atBoundary then r else .refused .offBoundary

/-- R166: the block as constructed with these parameters; values it cannot take are refused. -/
def construct (c : Config) : Host.Outcome State Fault Refusal :=
  if c.Legal then .next (State.resetWith c) else .refused .parameters

/-- R178: `reset()`: every piece of state to its reset value; the parameters stay. -/
def hostReset (s : State) : Host.Outcome State Fault Refusal := atBoundaryOnly s (.next (State.resetWith s.config))

/-- R179: the image with the bytes of a blob from physical offset `offset` on. -/
def loadBytes (m : Memory) (offset : Nat) : List Byte → Memory
  | [] => m
  | v :: rest => loadBytes (Sparse.write (0#8) m offset v) (offset + 1) rest

/-- R179: `load(blob)`: reset, then the blob at 0x0100 of the main bank; a missing (`none`) or too long blob is rejected
with no state changed. -/
def hostLoad (blob : Option (List Byte)) (s : State) : Host.Outcome State Fault Refusal :=
  atBoundaryOnly s <|
    match blob with
    | none => .refused .blobMissing
    | some bytes =>
      if bytes.length > bankSize - loadOffset then .refused .blobTooLong
      else .next { State.resetWith s.config with img := loadBytes [] loadOffset bytes }

/-- R37: `set_mapping(stack_on, stack_bank, ram_mode, ram_bank)`. -/
def hostSetMapping (m : Mapping) (s : State) : Host.Outcome State Fault Refusal :=
  atBoundaryOnly s <|
    if m.stackBank ≤ s.config.numExtBanks ∧ m.ramBank ≤ s.config.numExtBanks then .next { s with map := m }
    else .refused .bankIndex

/-- R40: the host's `read(addr, space)`; no notification. -/
def hostRead (addr : Nat) (space : Space) (s : State) : Host.Outcome Byte Fault Refusal :=
  atBoundaryOnly s (.next (s.read addr space))

/-- R40: the host's `write(addr, v, space)`; no notification. -/
def hostWrite (addr : Nat) (v : Byte) (space : Space) (s : State) : Host.Outcome State Fault Refusal :=
  atBoundaryOnly s (.next (s.write addr v space))

/-- R172: the host gets a register A..L. -/
def hostGetReg (r : Reg) (s : State) : Host.Outcome Byte Fault Refusal := atBoundaryOnly s (.next (s.reg r))

/-- R172: the host sets a register A..L. -/
def hostSetReg (r : Reg) (v : Byte) (s : State) : Host.Outcome State Fault Refusal :=
  atBoundaryOnly s (.next (s.setReg r v))

/-- R172: the host gets SP. -/
def hostGetSp (s : State) : Host.Outcome Word Fault Refusal := atBoundaryOnly s (.next s.sp)

/-- R172: the host sets SP. -/
def hostSetSp (v : Word) (s : State) : Host.Outcome State Fault Refusal := atBoundaryOnly s (.next { s with sp := v })

/-- R172: the host gets PC. -/
def hostGetPc (s : State) : Host.Outcome Word Fault Refusal := atBoundaryOnly s (.next s.pc)

/-- R172: the host sets PC. -/
def hostSetPc (v : Word) (s : State) : Host.Outcome State Fault Refusal := atBoundaryOnly s (.next { s with pc := v })

/-- R172: the host gets the five flags. -/
def hostGetFlags (s : State) : Host.Outcome Flags Fault Refusal := atBoundaryOnly s (.next s.flags)

/-- R172: the host sets the five flags. -/
def hostSetFlags (f : Flags) (s : State) : Host.Outcome State Fault Refusal :=
  atBoundaryOnly s (.next { s with flags := f })

/-- R172: the host gets INTE, IFF, HLTA, EIP. -/
def hostGetInterrupts (s : State) : Host.Outcome Interrupts Fault Refusal := atBoundaryOnly s (.next s.intr)

/-- R172: the host sets INTE, IFF, HLTA, EIP. -/
def hostSetInterrupts (v : Interrupts) (s : State) : Host.Outcome State Fault Refusal :=
  atBoundaryOnly s (.next { s with intr := v })

/-- R69, R172: the host observes `cc`. -/
def hostReadCc (s : State) : Host.Outcome Nat Fault Refusal := atBoundaryOnly s (.next s.seq.cc)

/-- R25, R172: the host observes the raster position. -/
def hostReadRaster (s : State) : Host.Outcome Raster Fault Refusal := atBoundaryOnly s (.next s.raster)

/-- R26, R172: the host observes the three access counters of a physical offset: run, read, write. At an offset of
IMAGE_SIZE or more, where the arrays have no entry and the spec says nothing of the call, the answer (0, 0, 0) is the model's
choice, in states that meet the invariant (DESIGN CHOICE, log entry 16). -/
def hostReadCounts (offset : Nat) (s : State) : Host.Outcome (Nat × Nat × Nat) Fault Refusal :=
  atBoundaryOnly s (.next (Sparse.lookup 0 s.counts.run offset, Sparse.lookup 0 s.counts.read offset,
    Sparse.lookup 0 s.counts.write offset))

end Sys2Proof.Machine
end

