-- ==== Sys2Proof/Machine/Disassembler.lean ====
section
/-! DEFINITION. The disassembler (46_disassembler R148 to R155): the control-flow-kind table, one decoded instruction,
the backward scan, and the listing lines. A pure reader: none of it returns a state. The length table is `lenOf` of
Decode.lean, which the fetch path uses too (R148); the mnemonic table is the parameter `MNEMONIC` (R149). -/

namespace Sys2Proof.Machine

/-! ### Tables -/

/-- R150: the control-flow kinds. -/
inductive CfKind where
  | call
  | conditionalCall
  | reset
  | indirectJump
  | unconditionalJump
  | conditionalJump
  | returnFamily
  | other
  deriving DecidableEq, Repr

/-- R150: the control-flow kind of an opcode. -/
def cfKind (op : Byte) : CfKind :=
  if op ∈ [0xCD#8, 0xDD#8, 0xED#8, 0xFD#8] then .call
  else if op ∈ [0xC4#8, 0xCC#8, 0xD4#8, 0xDC#8, 0xE4#8, 0xEC#8, 0xF4#8, 0xFC#8] then .conditionalCall
  else if op ∈ [0xC7#8, 0xCF#8, 0xD7#8, 0xDF#8, 0xE7#8, 0xEF#8, 0xF7#8, 0xFF#8] then .reset
  else if op = 0xE9#8 then .indirectJump
  else if op ∈ [0xC3#8, 0xCB#8] then .unconditionalJump
  else if op ∈ [0xC2#8, 0xCA#8, 0xD2#8, 0xDA#8, 0xE2#8, 0xEA#8, 0xF2#8, 0xFA#8] then .conditionalJump
  else if op ∈ [0xC9#8, 0xD9#8, 0xC0#8, 0xC8#8, 0xD0#8, 0xD8#8, 0xE0#8, 0xE8#8, 0xF0#8, 0xF8#8] then .returnFamily
  else .other

/-! ### Text -/

/-- R151: an uppercase hexadecimal digit. -/
def hexDigit (n : Nat) : Char := if n < 10 then Char.ofNat (48 + n) else Char.ofNat (55 + n)

/-- R151: `hex2(v)`, 0x and two digits. -/
def hex2 (v : Byte) : String := "0x" ++ String.ofList [hexDigit (v.toNat / 16), hexDigit (v.toNat % 16)]

/-- R151: `hex4(v)`, 0x and four digits. -/
def hex4 (v : Word) : String :=
  "0x" ++ String.ofList [hexDigit (v.toNat / 4096), hexDigit (v.toNat / 256 % 16), hexDigit (v.toNat / 16 % 16),
    hexDigit (v.toNat % 16)]

/-! ### One instruction -/

/-- R151: `decode_one(addr)`: the text and the length of the instruction at an address, read in RAM space under the
current mapping with no notification. -/
def decodeOne (s : State) (addr : Nat) : String × Nat :=
  let a := BitVec.ofNat 16 addr
  let op := s.read a.toNat .ram
  let name := s.config.mnemonicOf op
  let b2 := s.read (a + 1).toNat .ram
  let b3 := s.read (a + 2).toNat .ram
  match lenOf op with
  | 1 => (name, 1)
  | 2 => (name ++ " " ++ hex2 b2, 2)
  | _ => (name ++ " " ++ hex4 (b3 ++ b2), 3)

/-! ### Backward scan -/

/-- R152: the inner loop from address `a` with `used` bytes behind it: decode while instructions are wanted and the
window `w` is not filled. The answer is how many instructions are still wanted and the bytes used. -/
def scanForward (s : State) (w : Nat) : Nat → Nat → Word → Nat × Nat
  | 0, used, _ => (0, used)
  | wanted + 1, used, a =>
    if used < w then
      let len := lenOf (s.read a.toNat .ram)
      scanForward s w wanted (used + len) (a + BitVec.ofNat 16 len)
    else (wanted + 1, used)

/-- R152: attempt `k`: the start address, when n instructions from it fill its window exactly. -/
def scanAttempt (s : State) (endAddr : Word) (n k : Nat) : Option Word :=
  let w := n * (maxInstrLen - k)
  let start := endAddr - BitVec.ofNat 16 w
  if scanForward s w n 0 start = (0, w) then some start else none

/-- R152: `backward_scan(end_addr, n_lines)`: the first of the attempts 0, 1, 2, 3 that fits; `none` is FAIL. -/
def backwardScan (s : State) (endAddr : Word) (n : Nat) : Option Word :=
  (List.range (maxInstrLen + 1)).findSome? (scanAttempt s endAddr n)

/-! ### Listing -/

/-- R154: the three counts of an address, in RAM space, in decimal. -/
def countsText (s : State) (a : Word) : String :=
  let g := s.translate a.toNat .ram
  toString (Sparse.lookup 0 s.counts.run g) ++ "," ++ toString (Sparse.lookup 0 s.counts.read g) ++ "," ++
    toString (Sparse.lookup 0 s.counts.write g)

/-- R154: an instruction line. -/
def instrLine (s : State) (a : Word) : String :=
  hex4 a ++ "\t" ++ (decodeOne s a.toNat).1 ++ "\t" ++ countsText s a

/-- R154: a data line. -/
def dataLine (s : State) (a : Word) : String :=
  hex4 a ++ "\t" ++ "_DB " ++ hex2 (s.read a.toNat .ram) ++ "\t" ++ countsText s a

/-- R153: n instruction lines from an address, each at the boundary after the one before. -/
def instrLines (s : State) : Nat → Word → List String
  | 0, _ => []
  | n + 1, a =>
    instrLine s a :: instrLines s n (a + BitVec.ofNat 16 (decodeOne s a.toNat).2)

/-- R153: n data lines from an address, one byte each. -/
def dataLines (s : State) : Nat → Word → List String
  | 0, _ => []
  | n + 1, a => dataLine s a :: dataLines s n (a + 1)

/-- R153: the n lines that end at `endAddr`: instructions from where the backward scan starts, or, when it fails, the n
bytes before `endAddr`. -/
def listing (s : State) (endAddr : Word) (n : Nat) : List String :=
  match backwardScan s endAddr n with
  | some start => instrLines s n start
  | none => dataLines s n (endAddr - BitVec.ofNat 16 n)

/-- R154: a listing as text: every line, the last one too, ended by a line feed (92 D26; log entry 12). -/
def listingText : List String → String
  | [] => ""
  | line :: lines => line ++ "\n" ++ listingText lines

/-! ### The host's calls (R155, R172): pure reads, at a boundary only -/

/-- R155: `decode_one`, called by the host. -/
def hostDecodeOne (addr : Nat) (s : State) : Host.Outcome (String × Nat) Fault Refusal :=
  atBoundaryOnly s (.next (decodeOne s addr))

/-- R155: `backward_scan`, called by the host. -/
def hostBackwardScan (endAddr : Word) (n : Nat) (s : State) : Host.Outcome (Option Word) Fault Refusal :=
  atBoundaryOnly s (.next (backwardScan s endAddr n))

/-- R154, R155: a listing's text, called by the host. -/
def hostListing (endAddr : Word) (n : Nat) (s : State) : Host.Outcome String Fault Refusal :=
  atBoundaryOnly s (.next (listingText (listing s endAddr n)))

end Sys2Proof.Machine
end

