-- ==== Sys2Proof/Safety.lean ====
section
/-! DEFINITION. What holds of a state of the block in every run (10_state R22, R23, R25, R28; 20_memory R36): the invariant
that claims assume where a state no run reaches would break them. -/

namespace Sys2Proof.Machine

/-- R28, R36: the memory image is in canonical form and every listed offset lies in it. -/
def State.MemoryOk (s : State) : Prop := Memory.wf s.img ∧ ∀ e ∈ s.img, e.1 < s.config.imageSize

/-- R26: a counter array is in canonical form and counts offsets of the image only. -/
def CounterArray.Ok (c : Config) (t : CounterArray) : Prop := CounterArray.wf t ∧ ∀ e ∈ t, e.1 < c.imageSize

/-- R26: the three counter arrays. -/
def State.CountsOk (s : State) : Prop :=
  CounterArray.Ok s.config s.counts.run ∧ CounterArray.Ok s.config s.counts.read ∧ CounterArray.Ok s.config s.counts.write

/-- R22, R37: the bank indices lie in 0..NUM_EXT_BANKS. -/
def State.MappingOk (s : State) : Prop := s.map.stackBank ≤ s.config.numExtBanks ∧ s.map.ramBank ≤ s.config.numExtBanks

/-- R23: `0 <= machine_cycle < len_cur <= CYCLES[IR]`. -/
def State.SequencerOk (s : State) : Prop := s.seq.mc < s.seq.lenCur ∧ s.seq.lenCur ≤ s.config.cyclesOf s.seq.ir

/-- R25, R167: the raster counters lie in the frame, and t50 is true at (0, 0) only. -/
def State.RasterOk (s : State) : Prop :=
  s.raster.pixel < s.config.framePixels ∧ s.raster.line < s.config.frameLines ∧
  (s.raster.t50 = true → s.raster.pixel = 0 ∧ s.raster.line = 0)

/-- The invariant of the block. -/
structure State.Inv (s : State) : Prop where
  config : s.config.Legal
  memory : s.MemoryOk
  counts : s.CountsOk
  mapping : s.MappingOk
  sequencer : s.SequencerOk
  raster : s.RasterOk

/-! ### What claims say of an instruction: its form, its answer, its frame -/

/-- R51, R52, R58, R72: the bytes of an instruction and its machine cycles in the default table. -/
def HasForm (i : Instr) (bytes : List Byte) (cycles : Nat) : Prop :=
  encode i = bytes ∧ decode bytes = .ok i [] ∧ Config.default.cyclesOf i.opcode = cycles

/-- The instruction answers a next state, of which `P` holds. -/
def Answers (i : Instr) (s : State) (P : State → Prop) : Prop := ∃ t, exec i s = .next t ∧ P t

/-- R26: RUNCNT of a physical offset. -/
def State.runCount (s : State) (g : Nat) : Nat := Sparse.lookup 0 s.counts.run g

/-- R26: READCNT of a physical offset. -/
def State.readCount (s : State) (g : Nat) : Nat := Sparse.lookup 0 s.counts.read g

/-- R26: WRITECNT of a physical offset. -/
def State.writeCount (s : State) (g : Nat) : Nat := Sparse.lookup 0 s.counts.write g

/-- R147: from `s` to `t` the READ and WRITE counters grew by the accesses at these physical offsets, and no RUN counter
grew. -/
def Counted (s t : State) (reads writes : List Nat) : Prop :=
  ∀ g, t.runCount g = s.runCount g ∧ t.readCount g = s.readCount g + reads.count g ∧
    t.writeCount g = s.writeCount g + writes.count g

/-- Every byte of the image but those at these physical offsets is as it was. -/
def OnlyBytes (s t : State) (offsets : List Nat) : Prop := ∀ g, g ∉ offsets → t.byteAt g = s.byteAt g

/-- The interrupt flip-flops, the mapping, the sequencer, the raster timer, the port record and the parameters are as
they were. -/
structure KeepsControl (s t : State) : Prop where
  intr : t.intr = s.intr
  map : t.map = s.map
  seq : t.seq = s.seq
  raster : t.raster = s.raster
  ports : t.ports = s.ports
  config : t.config = s.config

/-- The frame of an instruction that stores to `stored`, reads `reads` and writes `writes` (physical offsets): beside
those bytes and their counters, and beside registers, flags, SP and PC, nothing changed. -/
def Touches (s t : State) (stored reads writes : List Nat) : Prop :=
  KeepsControl s t ∧ OnlyBytes s t stored ∧ Counted s t reads writes

/-- R39: the physical offset of a RAM access at a 16-bit address. -/
def State.ramAt (s : State) (a : Word) : Nat := s.translate a.toNat .ram

/-- R39: the physical offset of a STACK access at a 16-bit address. -/
def State.stackAt (s : State) (a : Word) : Nat := s.translate a.toNat .stack

/-- Every register but these is as it was. -/
def OnlyRegs (s t : State) (changed : List Reg) : Prop := ∀ q, q ∉ changed → t.reg q = s.reg q

/-! ### Results in integers -/

/-- R17: S, Z and P of an 8-bit result. -/
def ResultFlags (f : Flags) (r : Byte) : Prop :=
  f.s = decide (128 ≤ r.toNat) ∧ f.z = decide (r.toNat = 0) ∧ f.p = decide (popcount r % 2 = 0)

/-- R90: `r` and `f` are the sum of `a`, `v` and the carry `c` with its flags: CY the carry out of bit 7, AC the carry
out of bit 3. -/
def IsSum (a v : Byte) (c : Bool) (r : Byte) (f : Flags) : Prop :=
  r.toNat = (a.toNat + v.toNat + c.toNat) % 256 ∧
  f.cy = decide (256 ≤ a.toNat + v.toNat + c.toNat) ∧
  f.ac = decide (16 ≤ a.toNat % 16 + v.toNat % 16 + c.toNat) ∧ ResultFlags f r

/-- R91: `r` and `f` are the difference of `a`, `v` and the borrow `c` with its flags: CY the borrow, AC no borrow out
of bit 3. -/
def IsDifference (a v : Byte) (c : Bool) (r : Byte) (f : Flags) : Prop :=
  r.toNat = (a.toNat + 512 - v.toNat - c.toNat) % 256 ∧
  f.cy = decide (a.toNat < v.toNat + c.toNat) ∧
  f.ac = decide (v.toNat % 16 + c.toNat ≤ a.toNat % 16) ∧ ResultFlags f r

/-- R107: `r` and `f` are the result of AND, XOR or OR with its flags. -/
def IsLogic (op : LogicOp) (a v r : Byte) (f : Flags) : Prop :=
  (∀ k, k < 8 → r.getLsbD k =
    match op with
    | .and => a.getLsbD k && v.getLsbD k
    | .xor => a.getLsbD k != v.getLsbD k
    | .or => a.getLsbD k || v.getLsbD k) ∧
  f.ac = (op == .and && (a.getLsbD 3 || v.getLsbD 3)) ∧ f.cy = false ∧ ResultFlags f r

/-- R152: the bytes that n instructions fill, decoded forward from `a` in RAM space. -/
def State.bytesFrom (s : State) : Nat → Word → Nat
  | 0, _ => 0
  | n + 1, a =>
    lenOf (s.read a.toNat .ram) + s.bytesFrom n (a + BitVec.ofNat 16 (lenOf (s.read a.toNat .ram)))

/-- R152: the candidate start of attempt `k` fits: its n instructions fill exactly its window of `n * (3 - k)` bytes. -/
def State.ScanFits (s : State) (endAddr : Word) (n k : Nat) : Prop :=
  s.bytesFrom n (endAddr - BitVec.ofNat 16 (n * (3 - k))) = n * (3 - k)

/-- The physical offsets that reading an operand reads: HL's for M, none for a register. -/
def State.operandReads (s : State) : Operand → List Nat
  | .reg _ => []
  | .m => [s.ramAt s.hl]

/-- The two bytes of a PUSH pair, high first (R13, R136). -/
def State.stackHalves (s : State) : StackPair → Byte × Byte
  | .bc => (s.regs.b, s.regs.c)
  | .de => (s.regs.d, s.regs.e)
  | .hl => (s.regs.h, s.regs.l)
  | .psw => (s.regs.a, s.flags.toByte)

end Sys2Proof.Machine
end

