-- ==== Sys2Proof/Certificates/Slice0/Obligations.lean ====
section
/-! DEFINITION. The statements for the provers, each from the spec's numbered rules. -/

open Sys2Proof Sys2Proof.Machine

/-! ### Reset, the invariant, the step -/

/-- 70_reset_and_hazards section 1, 10_state section 7: reset zeroes every piece of state. The clauses on `cc`, IR,
`len_cur`, the raster timer and the port record rest on the spec's own decisions (92 D18, D21, D31) and, for the raster position,
on its default (log entry 2); the model's own count of port reads (log entry 4) is not stated. -/
def Obligations.ResetZeroesEveryPiece : Prop :=
  (∀ r : Reg, State.reset.reg r = 0#8) ∧ State.reset.sp = 0#16 ∧ State.reset.pc = 0#16 ∧
  State.reset.flags = ⟨false, false, false, false, false⟩ ∧ State.reset.flags.toByte = 0x02#8 ∧
  State.reset.intr = ⟨false, false, false, false⟩ ∧ State.reset.map = ⟨false, 0, 0#8, 0⟩ ∧
  State.reset.seq = ⟨0, 0#8, 1, 0⟩ ∧ State.reset.raster = ⟨0, 0, false⟩ ∧
  State.reset.ports.lastOutPort = 0#8 ∧ State.reset.ports.lastOutValue = 0#8 ∧
  (∀ g, State.reset.byteAt g = 0#8 ∧ State.reset.runCount g = 0 ∧ State.reset.readCount g = 0 ∧
    State.reset.writeCount g = 0) ∧
  (∀ (a : Word) (sp : Space), sp ≠ .global → State.reset.translate a.toNat sp = a.toNat)

/-- 10_state R22, R23, R25, R26, R28; 20_memory R36: the invariant holds after reset. Two of its clauses are the model's
choices: the canonical form of memory and counters (log entry 9), and which parameters are legal (log entry 10). -/
def Obligations.ResetMeetsInvariant : Prop := State.reset.Inv

/-- 10_state R22, R23, R25, R26, R28; 20_memory R36: every step keeps the invariant: memory and counters inside the image,
bank indices in range, `0 <= machine_cycle < len_cur <= CYCLES[IR]`, the raster position in the frame. Two of its clauses are
the model's choices: the canonical form of memory and counters (log entry 9), and which parameters are legal (log
entry 10). -/
def Obligations.StepKeepsInvariant : Prop := ∀ s t : State, s.Inv → step s = .next t → t.Inv

/-- R76: every opcode has a length in 1..6, and the step function has no fault and no refusal, in any state. -/
def Obligations.EveryStepCompletes : Prop :=
  (∀ (op b2 b3 : Byte), (instrOf op b2 b3).wellFormed = true ∧
    (1 ≤ Config.default.cyclesOf op ∧ Config.default.cyclesOf op ≤ 6) ∧
    (1 ≤ Config.default.cyclesNTOf op ∧ Config.default.cyclesNTOf op ≤ 6)) ∧
  (∀ (i : Instr) (s : State), ∃ t, exec i s = .next t) ∧
  (∀ (line : Bool) (s : State), ∃ t, procStep line s = .next t) ∧
  (∀ s : State, ∃ t, step s = .next t)

/-- R64, R66, R169: at a boundary that accepts no interrupt, when the bytes where the fetch begins decode to a well-formed
instruction, the step is that instruction's meaning on the fetched state `u` (one raster tick made, the request latched,
HLTA and EIP cleared, IR the opcode, PC past the instruction, one RUN counted a byte, the length fixed), then the end of the
machine cycle: `machine_cycle` one further, `cc` four further. Latching before the boundary test, clearing HLTA and counting
every fetched byte as RUN are the spec's own decisions (92 D8, D10, D35); running the whole instruction in this machine cycle
is the model's choice (log entry 1). -/
def Obligations.StepRunsDecodedInstruction : Prop :=
  ∀ (s : State) (i : Instr) (rest : List Byte),
    s.seq.mc = 0 →
    (s.rasterTick.latch s.rasterTick.raster.t50).accepts = false →
    decode [s.read s.fetchAddr.toNat .ram, s.read (s.fetchAddr + 1).toNat .ram, s.read (s.fetchAddr + 2).toNat .ram] =
      .ok i rest →
    i.wellFormed = true →
    ∃ u t : State, exec i u = .next t ∧
      step s = .next { t with
        seq := { t.seq with mc := (t.seq.mc + 1) % t.seq.lenCur, cc := t.seq.cc + 4 } } ∧
      u.regs = s.regs ∧ u.flags = s.flags ∧ u.sp = s.sp ∧ u.map = s.map ∧ u.ports = s.ports ∧ u.img = s.img ∧
      u.config = s.config ∧ u.raster = s.raster.next s.config ∧
      u.pc = s.fetchAddr + BitVec.ofNat 16 (encode i).length ∧
      u.intr = { (s.latch (s.raster.next s.config).t50).intr with eip := false, hlta := false } ∧
      u.seq = { s.seq with ir := i.opcode, lenCur := instrCycles s.config s.flags i.opcode } ∧
      (∀ g, u.readCount g = s.readCount g ∧ u.writeCount g = s.writeCount g ∧
        u.runCount g = s.runCount g +
          ([s.ramAt s.fetchAddr, s.ramAt (s.fetchAddr + 1), s.ramAt (s.fetchAddr + 2)].take (encode i).length).count g)

/-- R69: `cc` grows by 4 on every step and by `4 * len_cur` over an instruction; no rule of the processor reads it: a
processor step with another `cc` gives the same state but for that `cc`; and the host observes it at a boundary. -/
def Obligations.ClockCounterGrowsByFour : Prop :=
  (∀ (line : Bool) (s : State), ∃ t, procStep line s = .next t ∧ t.seq.cc = s.seq.cc + 4) ∧
  (∀ (s t : State) (fired : Bool), executeInstruction s = .next (t, fired) →
    t.seq.cc = s.seq.cc + 4 * t.seq.lenCur) ∧
  (∀ (line : Bool) (s t : State) (n : Nat), procStep line s = .next t →
    procStep line { s with seq := { s.seq with cc := n } } = .next { t with seq := { t.seq with cc := n + 4 } }) ∧
  (∀ s : State, s.seq.mc = 0 → hostReadCc s = .next s.seq.cc)

/-- 40_sequencer R65, R68, R75; 60_exceptions R159: the model's choice (log entry 1): an instruction is run whole in its
first machine cycle, so that a step between boundaries latches the request and counts, and IR is replaced at a boundary only.
The gating of the latch by `IRQ_LATCH` and the latching in every machine cycle are the spec's own decisions (92 D9, D10). -/
def Obligations.LaterCyclesOnlyCount : Prop :=
  ∀ (line : Bool) (s : State), s.seq.mc ≠ 0 →
    procStep line s = .next { s with
      intr := { s.intr with iff := s.intr.iff || (line && (s.intr.inte || s.config.irqLatch == .ungated)) }
      seq := { s.seq with mc := (s.seq.mc + 1) % s.seq.lenCur, cc := s.seq.cc + 4 } }

/-- R37, R157: no step of the block changes the mapping state: no instruction and no port write reaches it, by the spec's own
decision (92 D13). Nor does one change the parameters, which are the model's own field of State, `config` (log entry 2). -/
def Obligations.StepLeavesMappingAlone : Prop :=
  (∀ (line : Bool) (s t : State), procStep line s = .next t → t.map = s.map ∧ t.config = s.config) ∧
  (∀ s t : State, step s = .next t → t.map = s.map ∧ t.config = s.config)

/-! ### Interrupts -/

/-- 60_exceptions R159: the latch sets IFF on a request while INTE = 1, or always when `IRQ_LATCH` is ungated, and changes
nothing else. The parameter and the latching in every machine cycle are the spec's own decisions (92 D9, D10). -/
def Obligations.RequestIsLatched : Prop :=
  ∀ (line : Bool) (s : State), s.latch line =
    { s with intr := { s.intr with
      iff := s.intr.iff || (line && (s.intr.inte || decide (s.config.irqLatch = .ungated))) } }

/-- R160: at a boundary, after the latch, an interrupt is accepted exactly when IFF = 1, INTE = 1 and EIP = 0, which forces
the next opcode to RST 7; otherwise the next opcode is fetched and EIP is cleared (only an EI then sets it again). Between
two boundaries nothing is accepted: IR, INTE and EIP stay. -/
def Obligations.InterruptAcceptedExactlyWhenEnabled : Prop :=
  (∀ (line : Bool) (s : State), s.seq.mc = 0 →
    ((((s.latch line).intr.iff = true ∧ s.intr.inte = true ∧ s.intr.eip = false) →
      ∃ t, procStep line s = .next t ∧ t.seq.ir = rst7Opcode ∧ t.intr.inte = false ∧ ∀ g, t.runCount g = s.runCount g) ∧
    (¬ ((s.latch line).intr.iff = true ∧ s.intr.inte = true ∧ s.intr.eip = false) →
      ∃ t, procStep line s = .next t ∧ t.seq.ir = s.read (if s.intr.hlta then s.pc - 1 else s.pc).toNat .ram ∧
        (t.intr.eip = true ↔ t.seq.ir = 0xFB#8) ∧
        s.runCount (s.ramAt (if s.intr.hlta then s.pc - 1 else s.pc)) + 1 ≤
          t.runCount (s.ramAt (if s.intr.hlta then s.pc - 1 else s.pc))))) ∧
  (∀ (line : Bool) (s : State), s.seq.mc ≠ 0 →
    ∃ t, procStep line s = .next t ∧ t.seq.ir = s.seq.ir ∧ t.intr.inte = s.intr.inte ∧ t.intr.eip = s.intr.eip)

/-- R161: acceptance forces opcode 0xFF with nothing fetched, clears INTE, IFF and HLTA, pushes PC in STACK space (high byte
at SP - 1, low byte at SP - 2), goes to 0x0038, takes `CYCLES[0xFF]` machine cycles, and saves nothing else. The opcode and
the vector are the spec's own decision (92 D33); that the push uses STACK space is D7; that the whole effect stands after the
accepting machine cycle is the model's choice (log entry 1). -/
def Obligations.AcceptancePushesAndJumps : Prop :=
  ∀ (line : Bool) (s : State), s.seq.mc = 0 → (s.latch line).intr.iff = true → s.intr.inte = true → s.intr.eip = false →
    ∃ t, procStep line s = .next t ∧
      t.intr = ⟨false, false, false, false⟩ ∧ t.pc = 0x0038#16 ∧ t.sp = s.sp - 2 ∧
      t.byteAt (s.stackAt (s.sp - 1)) = s.pc.extractLsb' 8 8 ∧ t.byteAt (s.stackAt (s.sp - 2)) = s.pc.extractLsb' 0 8 ∧
      OnlyBytes s t [s.stackAt (s.sp - 1), s.stackAt (s.sp - 2)] ∧
      Counted s t [] [s.stackAt (s.sp - 1), s.stackAt (s.sp - 2)] ∧
      t.regs = s.regs ∧ t.flags = s.flags ∧ t.map = s.map ∧ t.raster = s.raster ∧ t.ports = s.ports ∧
      t.config = s.config ∧
      t.seq = ⟨1 % s.config.cyclesOf 0xFF#8, 0xFF#8, s.config.cyclesOf 0xFF#8, s.seq.cc + 4⟩

/-- R162: the boundary right after EI (EIP = 1) accepts nothing, keeps a request raised in it, and fetches; EIP is then 0
unless the instruction is EI again; and the boundary after that accepts when IFF and INTE are 1. -/
def Obligations.EiDefersOneInstruction : Prop :=
  (∀ s : State, Answers .ei s fun t => t.intr.inte = true ∧ t.intr.eip = true) ∧
  (∀ (line : Bool) (s : State), s.seq.mc = 0 → s.intr.eip = true →
    ∃ t, procStep line s = .next t ∧ t.seq.ir = s.read (if s.intr.hlta then s.pc - 1 else s.pc).toNat .ram ∧
      (t.seq.ir ≠ 0xFB#8 → t.intr.eip = false) ∧
      (s.intr.inte = true → (line = true ∨ s.intr.iff = true) → t.intr.iff = true)) ∧
  (∀ (line : Bool) (s : State), s.seq.mc = 0 → s.intr.eip = false → s.intr.iff = true → s.intr.inte = true →
    ∃ t, procStep line s = .next t ∧ t.seq.ir = rst7Opcode ∧ t.intr.inte = false)

/-- R67: a boundary that does not accept, after HLT, fetches from PC - 1; when HLT still stands there it runs again: PC and
HLTA are as before, one RUN is counted at its address, and no register, flag or byte changes. That the re-fetch clears HLTA
is the spec's own decision (92 D35); that the whole effect stands after this machine cycle is the model's choice (log
entry 1). -/
def Obligations.HaltRefetchesItself : Prop :=
  ∀ (line : Bool) (s : State), s.seq.mc = 0 → s.intr.hlta = true → (s.latch line).accepts = false →
    ∃ t, procStep line s = .next t ∧ t.seq.ir = s.read (s.pc - 1).toNat .ram ∧
      (t.seq.ir = 0x76#8 →
        t.pc = s.pc ∧ t.intr.hlta = true ∧ t.regs = s.regs ∧ t.flags = s.flags ∧ t.sp = s.sp ∧ t.img = s.img ∧
        ∀ g, t.runCount g = s.runCount g + [s.ramAt (s.pc - 1)].count g ∧ t.readCount g = s.readCount g ∧
          t.writeCount g = s.writeCount g)

/-! ### Raster timer and orchestrator -/

/-- R167: one tick adds the quantum to the pixel counter; when the line is full the rest is kept and the line counter
advances modulo the frame; t50 is true exactly when both counters are 0. The geometry is a parameter by the spec's own
decision (92 D17). -/
def Obligations.RasterTickCounts : Prop :=
  ∀ s : State,
    (s.raster.pixel + s.config.pixelQuantum < s.config.framePixels →
      s.rasterTick.raster.pixel = s.raster.pixel + s.config.pixelQuantum ∧ s.rasterTick.raster.line = s.raster.line) ∧
    (s.config.framePixels ≤ s.raster.pixel + s.config.pixelQuantum →
      s.rasterTick.raster.pixel = s.raster.pixel + s.config.pixelQuantum - s.config.framePixels ∧
      s.rasterTick.raster.line = (s.raster.line + 1) % s.config.frameLines) ∧
    (s.rasterTick.raster.t50 = true ↔ s.rasterTick.raster.pixel = 0 ∧ s.rasterTick.raster.line = 0) ∧
    s.rasterTick = { s with raster := s.rasterTick.raster }

/-- R167: from position (0, 0) the timer's position after n ticks is n quanta along the frame, and t50 is true on exactly
every `FRAME_PIXELS / PIXEL_QUANTUM * FRAME_LINES`-th tick; with the defaults, the spec's own decision (92 D17), that is
14976 ticks. -/
def Obligations.FramePulseOncePerFrame : Prop :=
  (∀ (c : Config) (n : Nat), c.Legal →
    ((Raster.next c)^[n] ⟨0, 0, false⟩).pixel = n * c.pixelQuantum % c.framePixels ∧
    ((Raster.next c)^[n] ⟨0, 0, false⟩).line = n * c.pixelQuantum / c.framePixels % c.frameLines ∧
    (((Raster.next c)^[n] ⟨0, 0, false⟩).t50 = true ↔ 0 < n ∧ n % c.frameTicks = 0)) ∧
  Config.default.frameTicks = 14976

/-- R169: `execute_instruction` at a boundary runs one instruction whole: it ends at the next boundary after `len_cur`
steps, with the registers, memory and counters that the first step's instruction gave, the raster timer `len_cur` ticks
further and `cc` `4 * len_cur` further, and reports whether t50 was true on one of the ticks (the report is the spec's own
decision, 92 D19). That the first step gives the whole effect is the model's choice (log entry 1), which R75 allows. -/
def Obligations.ExecuteInstructionRunsOneWhole : Prop :=
  ∀ s : State, s.Inv → s.seq.mc = 0 →
    ∃ u t fired, step s = .next u ∧ executeInstruction s = .next (t, fired) ∧
      t.seq = ⟨0, u.seq.ir, u.seq.lenCur, s.seq.cc + 4 * u.seq.lenCur⟩ ∧
      (1 ≤ u.seq.lenCur ∧ u.seq.lenCur ≤ 6) ∧
      t.raster = (Raster.next s.config)^[u.seq.lenCur] s.raster ∧
      (fired = true ↔ ∃ k, 1 ≤ k ∧ k ≤ u.seq.lenCur ∧ ((Raster.next s.config)^[k] s.raster).t50 = true) ∧
      t.regs = u.regs ∧ t.flags = u.flags ∧ t.sp = u.sp ∧ t.pc = u.pc ∧ t.img = u.img ∧ t.counts = u.counts ∧
      t.ports = u.ports ∧ t.map = s.map ∧ t.config = s.config ∧
      t.intr = { u.intr with iff := t.intr.iff } ∧ (u.intr.iff = true → t.intr.iff = true)

/-- R170: `execute_frame` ends, whatever the program does: at a boundary, after at most
`FRAME_PIXELS / PIXEL_QUANTUM * FRAME_LINES + 5` steps of 4 ticks, when the raster position is a whole number of quanta (as
it is after every tick from (0, 0); log entry 14). -/
def Obligations.ExecuteFrameEnds : Prop :=
  ∀ s : State, s.Inv → s.seq.mc = 0 → s.config.pixelQuantum ∣ s.raster.pixel →
    ∃ t, executeFrame s = .next t ∧ t.seq.mc = 0 ∧ t.seq.cc ≤ s.seq.cc + 4 * (s.config.frameTicks + 5)

/-! ### Host interface -/

/-- 40_sequencer R65, 60_exceptions R172: between two machine cycles of one instruction every operation of the host but
`step(line)` is refused, by the spec's own decision (92 D12). That `step(line)` is not refused there, since it is what moves
from one machine cycle to the next, is the model's reading (log entry 11). -/
def Obligations.HostCallsRefusedMidInstruction : Prop :=
  ∀ s : State, s.seq.mc ≠ 0 →
    (hostReset s = .refused .offBoundary ∧ (∀ blob, hostLoad blob s = .refused .offBoundary) ∧
      executeInstruction s = .refused .offBoundary ∧ executeFrame s = .refused .offBoundary ∧
      (∀ m, hostSetMapping m s = .refused .offBoundary)) ∧
    ((∀ a sp, hostRead a sp s = .refused .offBoundary) ∧ (∀ a v sp, hostWrite a v sp s = .refused .offBoundary)) ∧
    ((∀ r, hostGetReg r s = .refused .offBoundary) ∧ (∀ r v, hostSetReg r v s = .refused .offBoundary) ∧
      hostGetSp s = .refused .offBoundary ∧ (∀ v, hostSetSp v s = .refused .offBoundary) ∧
      hostGetPc s = .refused .offBoundary ∧ (∀ v, hostSetPc v s = .refused .offBoundary) ∧
      hostGetFlags s = .refused .offBoundary ∧ (∀ f, hostSetFlags f s = .refused .offBoundary) ∧
      hostGetInterrupts s = .refused .offBoundary ∧ (∀ v, hostSetInterrupts v s = .refused .offBoundary)) ∧
    (hostReadCc s = .refused .offBoundary ∧ hostReadRaster s = .refused .offBoundary ∧
      (∀ g, hostReadCounts g s = .refused .offBoundary)) ∧
    ((∀ a, hostDecodeOne a s = .refused .offBoundary) ∧ (∀ e n, hostBackwardScan e n s = .refused .offBoundary) ∧
      (∀ e n, hostListing e n s = .refused .offBoundary)) ∧
    (∀ line, ∃ t, procStep line s = .next t)

/-- R179: an accepted load is a reset and the blob at 0x0100 of the main bank, every other byte 0, and reads back; a
missing blob and one of more than 0xFF00 bytes are rejected (the limit is the spec's own decision, 92 D22). That the load
keeps the parameters and sets the model's count of port reads to its reset value is log entry 15; the canonical form of memory
is the model's choice (log entry 9). -/
def Obligations.LoadPlacesTheBlob : Prop :=
  ∀ s : State, s.seq.mc = 0 →
    hostLoad none s = .refused .blobMissing ∧
    (∀ bytes : List Byte, 0xFF00 < bytes.length → hostLoad (some bytes) s = .refused .blobTooLong) ∧
    (∀ bytes : List Byte, bytes.length ≤ 0xFF00 →
      ∃ t, hostLoad (some bytes) s = .next t ∧ t = { State.resetWith s.config with img := t.img } ∧ Memory.wf t.img ∧
        (∀ k, k < bytes.length → t.read (0x0100 + k) .ram = bytes.getD k 0#8) ∧
        (∀ g, g < 0x0100 ∨ 0x0100 + bytes.length ≤ g → t.byteAt g = 0#8))

/-- R37: `set_mapping` at a boundary writes the mapping state, and refuses a bank index beyond `NUM_EXT_BANKS`
(the spec's own decision, 92 D13, D15). -/
def Obligations.SetMappingChecksBanks : Prop :=
  ∀ (m : Mapping) (s : State), s.seq.mc = 0 →
    (m.stackBank ≤ s.config.numExtBanks → m.ramBank ≤ s.config.numExtBanks →
      hostSetMapping m s = .next { s with map := m }) ∧
    (s.config.numExtBanks < m.stackBank ∨ s.config.numExtBanks < m.ramBank →
      hostSetMapping m s = .refused .bankIndex)

/-! ### Disassembler -/

/-- R152: the backward scan answers the candidate of the first of the attempts 0 to 3 whose n instructions fill exactly its
window of `n * (3 - k)` bytes, and FAIL exactly when none does; decoding n instructions forward from an answer lands exactly on
the end address; for n = 0 the answer is the end itself. The candidates and windows are the spec's own decision (92 D25). -/
def Obligations.BackwardScanLandsOnEnd : Prop :=
  ∀ (s : State) (e : Word) (n : Nat),
    (∀ a, backwardScan s e n = some a ↔
      ∃ k, k ≤ 3 ∧ a = e - BitVec.ofNat 16 (n * (3 - k)) ∧ s.ScanFits e n k ∧ ∀ j, j < k → ¬ s.ScanFits e n j) ∧
    (backwardScan s e n = none ↔ ∀ k, k ≤ 3 → ¬ s.ScanFits e n k) ∧
    (∀ a, backwardScan s e n = some a →
      (fun x : Word => x + BitVec.ofNat 16 (lenOf (s.read x.toNat .ram)))^[n] a = e) ∧
    backwardScan s e 0 = some e

/-- R51: an instruction has 1, 2 or 3 bytes by its opcode alone: the disassembler's length of the instruction at PC, the
number of bytes that the fetch path takes through PC, and the length of the instruction's encoding are `LEN` of the byte
there, in every state. That the disassembler reads that byte in RAM space under the current mapping is the spec's own decision
(R151, 92 D27). -/
def Obligations.DisassemblerAgreesWithFetch : Prop :=
  (∀ op : Byte, 1 ≤ lenOf op ∧ lenOf op ≤ 3) ∧
  (∀ s : State,
    (decodeOne s s.pc.toNat).2 = lenOf (s.read s.pc.toNat .ram) ∧
    s.fetchInstr.2.pc = s.pc + BitVec.ofNat 16 (decodeOne s s.pc.toNat).2 ∧
    (encode s.fetchInstr.1).length = (decodeOne s s.pc.toNat).2)

/-! ### Memory -/

/-- R31, R32, R33, R34: the physical offset of an address in each space. Which mode bit enables which window is a parameter
by the spec's own decision (92 D14). -/
def Obligations.TranslationByWindow : Prop :=
  ∀ (s : State) (addr : Nat),
    s.translate addr .global = addr % (0x10000 * (1 + s.config.numExtBanks)) ∧
    (s.map.stackOn = false → s.translate addr .stack = addr % 0x10000) ∧
    (s.map.stackOn = true → s.translate addr .stack = addr % 0x10000 + s.map.stackBank * 0x10000) ∧
    (addr % 0x10000 < 0x8000 → s.translate addr .ram = addr % 0x10000) ∧
    (0x8000 ≤ addr % 0x10000 → addr % 0x10000 ≤ 0x9FFF → s.translate addr .ram =
      addr % 0x10000 + if s.map.ramMode.getLsbD s.config.bit8000 then s.map.ramBank * 0x10000 else 0) ∧
    (0xA000 ≤ addr % 0x10000 → addr % 0x10000 ≤ 0xDFFF → s.translate addr .ram =
      addr % 0x10000 + if s.map.ramMode.getLsbD s.config.bitA000 then s.map.ramBank * 0x10000 else 0) ∧
    (0xE000 ≤ addr % 0x10000 → s.translate addr .ram =
      addr % 0x10000 + if s.map.ramMode.getLsbD s.config.bitE000 then s.map.ramBank * 0x10000 else 0)

/-- R36: with the bank indices in 0..NUM_EXT_BANKS, every translation result lies in the image. -/
def Obligations.TranslationStaysInImage : Prop :=
  ∀ (s : State) (addr : Nat) (sp : Space), s.MappingOk → s.translate addr sp < s.config.imageSize

/-- R38, R46: a read returns the last write to the same physical offset, and a write changes no other offset. That a write
keeps the canonical form of memory is about the model's own choice of that form (log entry 9). -/
def Obligations.ReadReturnsLastWrite : Prop :=
  ∀ (s : State) (a b : Nat) (sp sp' : Space) (v : Byte),
    (s.translate b sp' = s.translate a sp → (s.write a v sp).read b sp' = v) ∧
    (s.translate b sp' ≠ s.translate a sp → (s.write a v sp).read b sp' = s.read b sp') ∧
    (Memory.wf s.img → Memory.wf (s.write a v sp).img)

/-- 40_sequencer R66: `Fetch` reads the byte at PC in RAM space, counts one RUN there (for immediates too: the spec's own
decision, 92 D8), and moves PC one further modulo 2^16. -/
def Obligations.FetchReadsThroughPc : Prop :=
  ∀ s : State, s.fetch.1 = s.read s.pc.toNat .ram ∧ s.fetch.2.pc.toNat = (s.pc.toNat + 1) % 0x10000 ∧
    (∀ g, s.fetch.2.runCount g = s.runCount g + [s.ramAt s.pc].count g) ∧
    s.fetch.2 = { s with pc := s.fetch.2.pc, counts := { s.counts with run := s.fetch.2.counts.run } }

/-- 45_stack_io_control R135: what is pushed is popped, SP is restored, and the two bytes stand at SP - 1 (high) and SP - 2
(low), in STACK space (the spec's own decisions, 92 D2, D7). -/
def Obligations.PopReturnsWhatWasPushed : Prop :=
  ∀ (s : State) (v : Word), (s.push16 v).pop16.1 = v ∧ (s.push16 v).pop16.2.sp = s.sp ∧ (s.push16 v).sp = s.sp - 2 ∧
    (s.push16 v).byteAt (s.stackAt (s.sp - 1)) = v.extractLsb' 8 8 ∧
    (s.push16 v).byteAt (s.stackAt (s.sp - 2)) = v.extractLsb' 0 8 ∧
    OnlyBytes s (s.push16 v) [s.stackAt (s.sp - 1), s.stackAt (s.sp - 2)]

/-! ### ALU -/

/-- R90: ADD8 is addition modulo 2^8 with CY the carry out of bit 7 and AC the carry out of bit 3. -/
def Obligations.AddComputesSumAndCarries : Prop :=
  ∀ (a b : Byte) (c : Bool), IsSum a b c (add8 a b c).r (add8 a b c).flags

/-- R91: SUB8 is subtraction modulo 2^8 with CY = 1 exactly on a borrow and AC = 1 on no borrow out of bit 3. -/
def Obligations.SubComputesDifferenceAndBorrow : Prop :=
  ∀ (a b : Byte) (c : Bool), IsDifference a b c (sub8 a b c).r (sub8 a b c).flags

/-- R92: subtraction undoes addition. -/
def Obligations.SubUndoesAdd : Prop := ∀ (x y : Byte) (c : Bool), (sub8 (add8 x y c).r y c).r = x

/-- R18: P is 1 exactly when the number of set bits is even. -/
def Obligations.ParityCountsSetBits : Prop :=
  ∀ x : Byte, parity x = decide (((List.range 8).countP fun k => x.getLsbD k) % 2 = 0)

/-- 10_state R19: the flag byte is `S Z 0 AC 0 P 1 CY` (the positions are the spec's own decision, 92 D3); it reads back as
the byte written with the fixed bits forced. -/
def Obligations.FlagByteForcesFixedBits : Prop :=
  (∀ f : Flags, f.toByte.getLsbD 7 = f.s ∧ f.toByte.getLsbD 6 = f.z ∧ f.toByte.getLsbD 5 = false ∧
    f.toByte.getLsbD 4 = f.ac ∧ f.toByte.getLsbD 3 = false ∧ f.toByte.getLsbD 2 = f.p ∧ f.toByte.getLsbD 1 = true ∧
    f.toByte.getLsbD 0 = f.cy) ∧
  (∀ v : Byte, (Flags.ofByte v).toByte = (v &&& 0xD7#8) ||| 0x02#8) ∧
  (∀ f : Flags, Flags.ofByte f.toByte = f)

/-- 42_arithmetic R106: DAA after an addition of two packed decimal bytes gives the packed decimal sum, with CY its
hundreds (the spec's own decision, 92 D36). -/
def Obligations.DaaGivesDecimalSum : Prop :=
  ∀ (x y : Byte) (c : Bool), x.toNat % 16 ≤ 9 → x.toNat / 16 ≤ 9 → y.toNat % 16 ≤ 9 → y.toNat / 16 ≤ 9 →
    ∃ d, daa8 (add8 x y c).r (add8 x y c).flags.ac (add8 x y c).flags.cy = d ∧
      d.r.toNat % 16 ≤ 9 ∧ d.r.toNat / 16 ≤ 9 ∧
      d.r.toNat / 16 * 10 + d.r.toNat % 16 + 100 * d.flags.cy.toNat =
        (x.toNat / 16 * 10 + x.toNat % 16) + (y.toNat / 16 * 10 + y.toNat % 16) + c.toNat

/-! ### Data transfer instructions -/

/-- R77, R78, R80: MOV r,r', MOV r,M and MVI r write the one register and nothing else; MOV r,M reads at the old HL. -/
def Obligations.MoveIntoRegister : Prop :=
  (∀ (dst src : Reg) (s : State), HasForm (.movRR dst src) [0b01#2 ++ dst.code ++ src.code] 2 ∧
    Answers (.movRR dst src) s fun t => t.reg dst = s.reg src ∧ OnlyRegs s t [dst] ∧ t.flags = s.flags ∧ t.sp = s.sp ∧
      t.pc = s.pc ∧ Touches s t [] [] []) ∧
  (∀ (dst : Reg) (s : State), HasForm (.movRM dst) [0b01#2 ++ dst.code ++ 6#3] 2 ∧
    Answers (.movRM dst) s fun t => t.reg dst = s.byteAt (s.ramAt s.hl) ∧ OnlyRegs s t [dst] ∧ t.flags = s.flags ∧
      t.sp = s.sp ∧ t.pc = s.pc ∧ Touches s t [] [s.ramAt s.hl] []) ∧
  (∀ (dst : Reg) (imm : Byte) (s : State), HasForm (.mviR dst imm) [0b00#2 ++ dst.code ++ 6#3, imm] 2 ∧
    Answers (.mviR dst imm) s fun t => t.reg dst = imm ∧ OnlyRegs s t [dst] ∧ t.flags = s.flags ∧ t.sp = s.sp ∧
      t.pc = s.pc ∧ Touches s t [] [] [])

/-- R79, R81, R84, R88: MOV M,r, MVI M, STA and STAX store one byte at their RAM address and change nothing else. -/
def Obligations.StoreOneByte : Prop :=
  (∀ (src : Reg) (s : State), HasForm (.movMR src) [0b01110#5 ++ src.code] 2 ∧
    Answers (.movMR src) s fun t => t.byteAt (s.ramAt s.hl) = s.reg src ∧ t.regs = s.regs ∧ t.flags = s.flags ∧
      t.sp = s.sp ∧ t.pc = s.pc ∧ Touches s t [s.ramAt s.hl] [] [s.ramAt s.hl]) ∧
  (∀ (imm : Byte) (s : State), HasForm (.mviM imm) [0x36#8, imm] 3 ∧
    Answers (.mviM imm) s fun t => t.byteAt (s.ramAt s.hl) = imm ∧ t.regs = s.regs ∧ t.flags = s.flags ∧
      t.sp = s.sp ∧ t.pc = s.pc ∧ Touches s t [s.ramAt s.hl] [] [s.ramAt s.hl]) ∧
  (∀ (a : Word) (s : State), HasForm (.sta a) [0x32#8, a.extractLsb' 0 8, a.extractLsb' 8 8] 4 ∧
    Answers (.sta a) s fun t => t.byteAt (s.ramAt a) = s.regs.a ∧ t.regs = s.regs ∧ t.flags = s.flags ∧
      t.sp = s.sp ∧ t.pc = s.pc ∧ Touches s t [s.ramAt a] [] [s.ramAt a]) ∧
  (∀ (e : RegPair × Byte) (s : State), e ∈ [(RegPair.bc, 0x02#8), (RegPair.de, 0x12#8)] → HasForm (.stax e.1) [e.2] 2 ∧
    Answers (.stax e.1) s fun t => t.byteAt (s.ramAt (s.pair e.1)) = s.regs.a ∧ t.regs = s.regs ∧ t.flags = s.flags ∧
      t.sp = s.sp ∧ t.pc = s.pc ∧ Touches s t [s.ramAt (s.pair e.1)] [] [s.ramAt (s.pair e.1)])

/-- R83, R87: LDA and LDAX read one byte at their RAM address into A and change nothing else. -/
def Obligations.LoadAccumulator : Prop :=
  (∀ (a : Word) (s : State), HasForm (.lda a) [0x3A#8, a.extractLsb' 0 8, a.extractLsb' 8 8] 4 ∧
    Answers (.lda a) s fun t => t.regs = { s.regs with a := s.byteAt (s.ramAt a) } ∧ t.flags = s.flags ∧
      t.sp = s.sp ∧ t.pc = s.pc ∧ Touches s t [] [s.ramAt a] []) ∧
  (∀ (e : RegPair × Byte) (s : State), e ∈ [(RegPair.bc, 0x0A#8), (RegPair.de, 0x1A#8)] → HasForm (.ldax e.1) [e.2] 2 ∧
    Answers (.ldax e.1) s fun t => t.regs = { s.regs with a := s.byteAt (s.ramAt (s.pair e.1)) } ∧ t.flags = s.flags ∧
      t.sp = s.sp ∧ t.pc = s.pc ∧ Touches s t [] [s.ramAt (s.pair e.1)] [])

/-- R85, R86: LHLD and SHLD move L at the address and H at the next one, each byte translated on its own. -/
def Obligations.LoadAndStoreHlDirect : Prop :=
  (∀ (a : Word) (s : State), HasForm (.lhld a) [0x2A#8, a.extractLsb' 0 8, a.extractLsb' 8 8] 5 ∧
    Answers (.lhld a) s fun t =>
      t.regs = { s.regs with l := s.byteAt (s.ramAt a), h := s.byteAt (s.ramAt (a + 1)) } ∧ t.flags = s.flags ∧
      t.sp = s.sp ∧ t.pc = s.pc ∧ Touches s t [] [s.ramAt a, s.ramAt (a + 1)] []) ∧
  (∀ (a : Word) (s : State), HasForm (.shld a) [0x22#8, a.extractLsb' 0 8, a.extractLsb' 8 8] 5 ∧
    Answers (.shld a) s fun t => t.byteAt (s.ramAt a) = s.regs.l ∧ t.byteAt (s.ramAt (a + 1)) = s.regs.h ∧
      t.regs = s.regs ∧ t.flags = s.flags ∧ t.sp = s.sp ∧ t.pc = s.pc ∧
      Touches s t [s.ramAt a, s.ramAt (a + 1)] [] [s.ramAt a, s.ramAt (a + 1)])

/-- R82, R103, R104: LXI, INX and DCX write the one pair (SP whole, or both halves), and no flag. -/
def Obligations.PairLoadAndStep : Prop :=
  ∀ (p : RegPair) (s : State),
    (∀ imm : Word, HasForm (.lxi p imm) [0b00#2 ++ p.code ++ 1#4, imm.extractLsb' 0 8, imm.extractLsb' 8 8] 3 ∧
      Answers (.lxi p imm) s fun t => t.pair p = imm ∧ (∀ q, q ≠ p → t.pair q = s.pair q) ∧ t.regs.a = s.regs.a ∧
        t.flags = s.flags ∧ t.pc = s.pc ∧ Touches s t [] [] []) ∧
    (HasForm (.inx p) [0b00#2 ++ p.code ++ 3#4] 2 ∧
      Answers (.inx p) s fun t => (t.pair p).toNat = ((s.pair p).toNat + 1) % 0x10000 ∧
        (∀ q, q ≠ p → t.pair q = s.pair q) ∧ t.regs.a = s.regs.a ∧ t.flags = s.flags ∧ t.pc = s.pc ∧
        Touches s t [] [] []) ∧
    (HasForm (.dcx p) [0b00#2 ++ p.code ++ 11#4] 2 ∧
      Answers (.dcx p) s fun t => (t.pair p).toNat = ((s.pair p).toNat + 0xFFFF) % 0x10000 ∧
        (∀ q, q ≠ p → t.pair q = s.pair q) ∧ t.regs.a = s.regs.a ∧ t.flags = s.flags ∧ t.pc = s.pc ∧
        Touches s t [] [] [])

/-- R105: DAD adds a pair to HL modulo 2^16, with CY the carry out of bit 15 and no other flag. -/
def Obligations.DoubleAdd : Prop :=
  ∀ (p : RegPair) (s : State), HasForm (.dad p) [0b00#2 ++ p.code ++ 9#4] 3 ∧
    Answers (.dad p) s fun t => t.hl.toNat = (s.hl.toNat + (s.pair p).toNat) % 0x10000 ∧ OnlyRegs s t [.h, .l] ∧
      t.flags = { s.flags with cy := decide (0x10000 ≤ s.hl.toNat + (s.pair p).toNat) } ∧ t.sp = s.sp ∧ t.pc = s.pc ∧
      Touches s t [] [] []

/-- R89, R127, R139: XCHG, PCHL and SPHL move HL, and nothing else. -/
def Obligations.HlTransfers : Prop :=
  HasForm .xchg [0xEB#8] 1 ∧ HasForm .sphl [0xF9#8] 2 ∧ HasForm .pchl [0xE9#8] 2 ∧
  ∀ s : State,
    (Answers .xchg s fun t => t =
      { s with regs := { s.regs with h := s.regs.d, l := s.regs.e, d := s.regs.h, e := s.regs.l } }) ∧
    (Answers .sphl s fun t => t = { s with sp := s.regs.h ++ s.regs.l }) ∧
    (Answers .pchl s fun t => t = { s with pc := s.regs.h ++ s.regs.l })

/-! ### Arithmetic and logical instructions -/

/-- R93 to R96: ADD, ADC, SUB, SBB on a register or M: A and the five flags from the sum or difference; M counts one READ;
nothing else changes. -/
def Obligations.AddSubtractOperand : Prop :=
  ∀ (src : Operand) (s : State),
    (HasForm (.add src) [0b10000#5 ++ src.code] (if src = .m then 2 else 1) ∧
      Answers (.add src) s fun t => IsSum s.regs.a (s.operandValue src) false t.regs.a t.flags ∧ OnlyRegs s t [.a] ∧
        t.sp = s.sp ∧ t.pc = s.pc ∧ Touches s t [] (s.operandReads src) []) ∧
    (HasForm (.adc src) [0b10001#5 ++ src.code] (if src = .m then 2 else 1) ∧
      Answers (.adc src) s fun t => IsSum s.regs.a (s.operandValue src) s.flags.cy t.regs.a t.flags ∧
        OnlyRegs s t [.a] ∧ t.sp = s.sp ∧ t.pc = s.pc ∧ Touches s t [] (s.operandReads src) []) ∧
    (HasForm (.sub src) [0b10010#5 ++ src.code] (if src = .m then 2 else 1) ∧
      Answers (.sub src) s fun t => IsDifference s.regs.a (s.operandValue src) false t.regs.a t.flags ∧
        OnlyRegs s t [.a] ∧ t.sp = s.sp ∧ t.pc = s.pc ∧ Touches s t [] (s.operandReads src) []) ∧
    (HasForm (.sbb src) [0b10011#5 ++ src.code] (if src = .m then 2 else 1) ∧
      Answers (.sbb src) s fun t => IsDifference s.regs.a (s.operandValue src) s.flags.cy t.regs.a t.flags ∧
        OnlyRegs s t [.a] ∧ t.sp = s.sp ∧ t.pc = s.pc ∧ Touches s t [] (s.operandReads src) [])

/-- R97 to R100: ADI, ACI, SUI, SBI: A and the five flags from the sum or difference with the immediate, nothing else. -/
def Obligations.AddSubtractImmediate : Prop :=
  ∀ (v : Byte) (s : State),
    (HasForm (.adi v) [0xC6#8, v] 2 ∧ Answers (.adi v) s fun t =>
      IsSum s.regs.a v false t.regs.a t.flags ∧ OnlyRegs s t [.a] ∧ t.sp = s.sp ∧ t.pc = s.pc ∧ Touches s t [] [] []) ∧
    (HasForm (.aci v) [0xCE#8, v] 2 ∧ Answers (.aci v) s fun t =>
      IsSum s.regs.a v s.flags.cy t.regs.a t.flags ∧ OnlyRegs s t [.a] ∧ t.sp = s.sp ∧ t.pc = s.pc ∧
      Touches s t [] [] []) ∧
    (HasForm (.sui v) [0xD6#8, v] 2 ∧ Answers (.sui v) s fun t =>
      IsDifference s.regs.a v false t.regs.a t.flags ∧ OnlyRegs s t [.a] ∧ t.sp = s.sp ∧ t.pc = s.pc ∧
      Touches s t [] [] []) ∧
    (HasForm (.sbi v) [0xDE#8, v] 2 ∧ Answers (.sbi v) s fun t =>
      IsDifference s.regs.a v s.flags.cy t.regs.a t.flags ∧ OnlyRegs s t [.a] ∧ t.sp = s.sp ∧ t.pc = s.pc ∧
      Touches s t [] [] [])

/-- 43_logical R107 to R110, R112 to R114: the logical instructions: A and the five flags from LOGIC8, nothing else. AC
after AND is the spec's own decision (92 D37). -/
def Obligations.LogicalInstructions : Prop :=
  (∀ (src : Operand) (s : State) (e : Instr × LogicOp × Byte),
    e ∈ [(.ana src, .and, 0b10100#5 ++ src.code), (.xra src, .xor, 0b10101#5 ++ src.code),
      (.ora src, .or, 0b10110#5 ++ src.code)] →
    HasForm e.1 [e.2.2] (if src = .m then 2 else 1) ∧
    Answers e.1 s fun t => IsLogic e.2.1 s.regs.a (s.operandValue src) t.regs.a t.flags ∧ OnlyRegs s t [.a] ∧
      t.sp = s.sp ∧ t.pc = s.pc ∧ Touches s t [] (s.operandReads src) []) ∧
  (∀ (v : Byte) (s : State) (e : Instr × LogicOp × Byte),
    e ∈ [(.ani v, .and, 0xE6#8), (.xri v, .xor, 0xEE#8), (.ori v, .or, 0xF6#8)] →
    HasForm e.1 [e.2.2, v] 2 ∧
    Answers e.1 s fun t => IsLogic e.2.1 s.regs.a v t.regs.a t.flags ∧ OnlyRegs s t [.a] ∧ t.sp = s.sp ∧ t.pc = s.pc ∧
      Touches s t [] [] [])

/-- R111, R115: CMP and CPI set the flags of A minus the operand (Z when equal, CY when A is less, unsigned) and leave every
register as it was. -/
def Obligations.CompareSetsFlagsOnly : Prop :=
  (∀ (src : Operand) (s : State), HasForm (.cmp src) [0b10111#5 ++ src.code] (if src = .m then 2 else 1) ∧
    Answers (.cmp src) s fun t => (∃ r, IsDifference s.regs.a (s.operandValue src) false r t.flags) ∧
      t.flags.z = decide (s.regs.a = s.operandValue src) ∧
      t.flags.cy = decide (s.regs.a.toNat < (s.operandValue src).toNat) ∧
      t.regs = s.regs ∧ t.sp = s.sp ∧ t.pc = s.pc ∧ Touches s t [] (s.operandReads src) []) ∧
  (∀ (v : Byte) (s : State), HasForm (.cpi v) [0xFE#8, v] 2 ∧
    Answers (.cpi v) s fun t => (∃ r, IsDifference s.regs.a v false r t.flags) ∧
      t.flags.z = decide (s.regs.a = v) ∧ t.flags.cy = decide (s.regs.a.toNat < v.toNat) ∧
      t.regs = s.regs ∧ t.sp = s.sp ∧ t.pc = s.pc ∧ Touches s t [] [] [])

/-- R101, R102: INR and DCR change a register or M by one modulo 2^8; S, Z, P from the result, AC as the rules say, CY
unchanged. -/
def Obligations.IncrementDecrement : Prop :=
  ∀ (s : State) (e : Bool × Nat), e ∈ [(true, 1), (false, 255)] →
    (∀ r : Reg, HasForm (if e.1 then .inr (.reg r) else .dcr (.reg r)) [0b00#2 ++ r.code ++ if e.1 then 4#3 else 5#3] 2 ∧
      Answers (if e.1 then .inr (.reg r) else .dcr (.reg r)) s fun t =>
        (t.reg r).toNat = ((s.reg r).toNat + e.2) % 256 ∧ OnlyRegs s t [r] ∧
        t.flags.ac = (if e.1 then decide ((t.reg r).toNat % 16 = 0) else decide ((t.reg r).toNat % 16 ≠ 15)) ∧
        ResultFlags t.flags (t.reg r) ∧ t.flags.cy = s.flags.cy ∧ t.sp = s.sp ∧ t.pc = s.pc ∧ Touches s t [] [] []) ∧
    (HasForm (if e.1 then .inr .m else .dcr .m) [if e.1 then 0x34#8 else 0x35#8] 3 ∧
      Answers (if e.1 then .inr .m else .dcr .m) s fun t =>
        (t.byteAt (s.ramAt s.hl)).toNat = ((s.byteAt (s.ramAt s.hl)).toNat + e.2) % 256 ∧ t.regs = s.regs ∧
        t.flags.ac = (if e.1 then decide ((t.byteAt (s.ramAt s.hl)).toNat % 16 = 0)
          else decide ((t.byteAt (s.ramAt s.hl)).toNat % 16 ≠ 15)) ∧
        ResultFlags t.flags (t.byteAt (s.ramAt s.hl)) ∧ t.flags.cy = s.flags.cy ∧ t.sp = s.sp ∧ t.pc = s.pc ∧
        Touches s t [s.ramAt s.hl] [s.ramAt s.hl] [s.ramAt s.hl])

/-- R116 to R119: the rotates move A one bit, with the bit that leaves in CY, and change nothing else. -/
def Obligations.RotatesMoveOneBit : Prop :=
  ∀ (s : State) (e : Instr × Byte × Nat × Bool),
    e ∈ [(.rlc, 0x07#8, s.regs.a.toNat * 2 % 256 + s.regs.a.toNat / 128, decide (128 ≤ s.regs.a.toNat)),
      (.rrc, 0x0F#8, s.regs.a.toNat / 2 + s.regs.a.toNat % 2 * 128, decide (s.regs.a.toNat % 2 = 1)),
      (.ral, 0x17#8, s.regs.a.toNat * 2 % 256 + s.flags.cy.toNat, decide (128 ≤ s.regs.a.toNat)),
      (.rar, 0x1F#8, s.regs.a.toNat / 2 + s.flags.cy.toNat * 128, decide (s.regs.a.toNat % 2 = 1))] →
    HasForm e.1 [e.2.1] 1 ∧
    Answers e.1 s fun t => t.regs.a.toNat = e.2.2.1 ∧ OnlyRegs s t [.a] ∧
      t.flags = { s.flags with cy := e.2.2.2 } ∧ t.sp = s.sp ∧ t.pc = s.pc ∧ Touches s t [] [] []

/-- R120, R121, R122: CMA complements A and writes no flag; STC sets and CMC complements CY alone. -/
def Obligations.ComplementAndCarry : Prop :=
  HasForm .cma [0x2F#8] 1 ∧ HasForm .stc [0x37#8] 1 ∧ HasForm .cmc [0x3F#8] 1 ∧
  ∀ s : State,
    (Answers .cma s fun t => t = { s with regs := { s.regs with a := s.regs.a ^^^ 0xFF#8 } }) ∧
    (Answers .stc s fun t => t = { s with flags := { s.flags with cy := true } }) ∧
    (Answers .cmc s fun t => t = { s with flags := { s.flags with cy := !s.flags.cy } })

/-- R106: DAA adds 0x06 when AC = 1 or the low digit is over 9, and 0x60, setting CY, when CY = 1 or the high digit is over
9, or at least 9 with the low digit over 9; S, Z, P and AC are the addition's; CY is otherwise kept. The exact conditions
are the spec's own decision (92 D36). -/
def Obligations.DecimalAdjust : Prop :=
  HasForm .daa [0x27#8] 1 ∧
  ∀ (s : State) (lo hi : Bool),
    lo = decide (s.flags.ac = true ∨ s.regs.a.toNat % 16 > 9) →
    hi = decide (s.flags.cy = true ∨ s.regs.a.toNat / 16 > 9 ∨ (s.regs.a.toNat / 16 ≥ 9 ∧ s.regs.a.toNat % 16 > 9)) →
    Answers .daa s fun t =>
      (∃ f, IsSum s.regs.a (BitVec.ofNat 8 (lo.toNat * 0x06 + hi.toNat * 0x60)) false t.regs.a f ∧
        t.flags = { f with cy := s.flags.cy || hi }) ∧
      OnlyRegs s t [.a] ∧ t.sp = s.sp ∧ t.pc = s.pc ∧ Touches s t [] [] []

/-! ### Branch instructions -/

/-- R123, R124, R125, R126: JMP and its duplicate set PC to the target; a conditional jump does so when its condition
holds and otherwise leaves PC after the instruction; nothing else changes. The one length of 3 machine cycles, taken or not, is
the spec's own decision (92 D5). -/
def Obligations.JumpsSetPc : Prop :=
  ∀ (a : Word) (s : State) (e : Instr × Byte × Bool),
    e ∈ [(.jmp a, 0xC3#8, true), (.jmpU a, 0xCB#8, true), (.jnz a, 0xC2#8, !s.flags.z), (.jz a, 0xCA#8, s.flags.z),
      (.jnc a, 0xD2#8, !s.flags.cy), (.jc a, 0xDA#8, s.flags.cy), (.jpo a, 0xE2#8, !s.flags.p),
      (.jpe a, 0xEA#8, s.flags.p), (.jp a, 0xF2#8, !s.flags.s), (.jm a, 0xFA#8, s.flags.s)] →
    HasForm e.1 [e.2.1, a.extractLsb' 0 8, a.extractLsb' 8 8] 3 ∧
    instrCycles Config.default s.flags e.2.1 = 3 ∧
    Answers e.1 s fun t => t = { s with pc := if e.2.2 then a else s.pc }

/-- R123, R128, R129, R130: CALL, its duplicates and a taken conditional call push the return address in STACK space and go
to the target, in 6 machine cycles; a conditional call not taken changes nothing, in 4 (the spec's own decisions, 92 D2,
D5, D7). -/
def Obligations.CallsPushReturnAddress : Prop :=
  ∀ (a : Word) (s : State) (e : Instr × Byte × Bool),
    e ∈ [(.call a, 0xCD#8, true), (.callU 1#2 a, 0xDD#8, true), (.callU 2#2 a, 0xED#8, true),
      (.callU 3#2 a, 0xFD#8, true), (.cnz a, 0xC4#8, !s.flags.z), (.cz a, 0xCC#8, s.flags.z),
      (.cnc a, 0xD4#8, !s.flags.cy), (.cc a, 0xDC#8, s.flags.cy), (.cpo a, 0xE4#8, !s.flags.p),
      (.cpe a, 0xEC#8, s.flags.p), (.cp a, 0xF4#8, !s.flags.s), (.cm a, 0xFC#8, s.flags.s)] →
    HasForm e.1 [e.2.1, a.extractLsb' 0 8, a.extractLsb' 8 8] 6 ∧
    instrCycles Config.default s.flags e.2.1 = (if e.2.2 then 6 else 4) ∧
    (e.2.2 = true → Answers e.1 s fun t => t.pc = a ∧ t.sp = s.sp - 2 ∧
      t.byteAt (s.stackAt (s.sp - 1)) = s.pc.extractLsb' 8 8 ∧ t.byteAt (s.stackAt (s.sp - 2)) = s.pc.extractLsb' 0 8 ∧
      t.regs = s.regs ∧ t.flags = s.flags ∧
      Touches s t [s.stackAt (s.sp - 1), s.stackAt (s.sp - 2)] [] [s.stackAt (s.sp - 1), s.stackAt (s.sp - 2)]) ∧
    (e.2.2 = false → Answers e.1 s fun t => t = s)

/-- R123, R131, R132, R133: RET, its duplicate and a taken conditional return load PC from the stack and move SP up two; a
conditional return not taken changes nothing; no interrupt flip-flop changes (R165). The counts and the STACK space are the
spec's own decisions (92 D2, D5, D7). -/
def Obligations.ReturnsPopPc : Prop :=
  ∀ (s : State) (e : Instr × Byte × Bool × Nat × Nat),
    e ∈ [(.ret, 0xC9#8, true, 3, 3), (.retU, 0xD9#8, true, 3, 3), (.rnz, 0xC0#8, !s.flags.z, 4, 2),
      (.rz, 0xC8#8, s.flags.z, 4, 2), (.rnc, 0xD0#8, !s.flags.cy, 4, 2), (.rc, 0xD8#8, s.flags.cy, 4, 2),
      (.rpo, 0xE0#8, !s.flags.p, 4, 2), (.rpe, 0xE8#8, s.flags.p, 4, 2), (.rp, 0xF0#8, !s.flags.s, 4, 2),
      (.rm, 0xF8#8, s.flags.s, 4, 2)] →
    HasForm e.1 [e.2.1] e.2.2.2.1 ∧
    instrCycles Config.default s.flags e.2.1 = (if e.2.2.1 then e.2.2.2.1 else e.2.2.2.2) ∧
    (e.2.2.1 = true → Answers e.1 s fun t =>
      t.pc.extractLsb' 0 8 = s.byteAt (s.stackAt s.sp) ∧ t.pc.extractLsb' 8 8 = s.byteAt (s.stackAt (s.sp + 1)) ∧
      t.sp = s.sp + 2 ∧ t.regs = s.regs ∧ t.flags = s.flags ∧
      Touches s t [] [s.stackAt s.sp, s.stackAt (s.sp + 1)] []) ∧
    (e.2.2.1 = false → Answers e.1 s fun t => t = s)

/-- 44_branch R134: RST n pushes PC in STACK space and goes to 8 * n (the spec's own decisions, 92 D2, D7, D33). -/
def Obligations.RestartPushesAndJumps : Prop :=
  ∀ (n : BitVec 3) (s : State), HasForm (.rst n) [0b11#2 ++ n ++ 7#3] 4 ∧
    Answers (.rst n) s fun t => t.pc.toNat = 8 * n.toNat ∧ t.sp = s.sp - 2 ∧
      t.byteAt (s.stackAt (s.sp - 1)) = s.pc.extractLsb' 8 8 ∧ t.byteAt (s.stackAt (s.sp - 2)) = s.pc.extractLsb' 0 8 ∧
      t.regs = s.regs ∧ t.flags = s.flags ∧
      Touches s t [s.stackAt (s.sp - 1), s.stackAt (s.sp - 2)] [] [s.stackAt (s.sp - 1), s.stackAt (s.sp - 2)]

/-! ### Stack, I/O and machine control -/

/-- R136, R137: PUSH stores a pair at SP - 1 and SP - 2, PSW as A and the flag byte; POP loads it from SP and SP + 1, PSW
writing A and the five flags; nothing else changes. The byte order, the STACK space and the flag byte's layout are the
spec's own decisions (92 D2, D3, D7). -/
def Obligations.PushAndPop : Prop :=
  ∀ (p : StackPair) (s : State),
    (HasForm (.push p) [0b11#2 ++ p.code ++ 5#4] 4 ∧ Answers (.push p) s fun t =>
      t.byteAt (s.stackAt (s.sp - 1)) = (s.stackHalves p).1 ∧ t.byteAt (s.stackAt (s.sp - 2)) = (s.stackHalves p).2 ∧
      t.sp = s.sp - 2 ∧ t.regs = s.regs ∧ t.flags = s.flags ∧ t.pc = s.pc ∧
      Touches s t [s.stackAt (s.sp - 1), s.stackAt (s.sp - 2)] [] [s.stackAt (s.sp - 1), s.stackAt (s.sp - 2)]) ∧
    (HasForm (.pop p) [0b11#2 ++ p.code ++ 1#4] 3 ∧ Answers (.pop p) s fun t =>
      (t.stackHalves p).1 = s.byteAt (s.stackAt (s.sp + 1)) ∧
      (t.stackHalves p).2 = (if p = .psw then s.byteAt (s.stackAt s.sp) &&& 0xD7#8 ||| 0x02#8
        else s.byteAt (s.stackAt s.sp)) ∧
      (∀ q, q ≠ p → q ≠ .psw → t.stackHalves q = s.stackHalves q) ∧
      (p ≠ .psw → t.regs.a = s.regs.a ∧ t.flags = s.flags) ∧ t.sp = s.sp + 2 ∧ t.pc = s.pc ∧
      Touches s t [] [s.stackAt s.sp, s.stackAt (s.sp + 1)] [])

/-- R138: XTHL exchanges L with the byte at SP and H with the byte at SP + 1, in STACK space, and leaves SP
(the STACK space is the spec's own decision, 92 D7). -/
def Obligations.ExchangeTopOfStack : Prop :=
  HasForm .xthl [0xE3#8] 6 ∧
  ∀ s : State, Answers .xthl s fun t =>
    t.regs = { s.regs with l := s.byteAt (s.stackAt s.sp), h := s.byteAt (s.stackAt (s.sp + 1)) } ∧
    t.byteAt (s.stackAt s.sp) = s.regs.l ∧ t.byteAt (s.stackAt (s.sp + 1)) = s.regs.h ∧
    t.flags = s.flags ∧ t.sp = s.sp ∧ t.pc = s.pc ∧
    Touches s t [s.stackAt s.sp, s.stackAt (s.sp + 1)] [s.stackAt s.sp, s.stackAt (s.sp + 1)]
      [s.stackAt (s.sp + 1), s.stackAt s.sp]

/-- R140, R141: IN loads A from the port callback: the stub's sentinel, or, from an external device, the free value of
this read (log entry 4); OUT gives A to it, and the stub records the port and the value and nothing else (the spec's own
decisions, 92 D13, D20, D21; an external device's OUT changes no state of the block: log entry 5). -/
def Obligations.PortInputAndOutput : Prop :=
  ∀ (port : Byte) (s : State),
    HasForm (.inp port) [0xDB#8, port] 3 ∧ HasForm (.out port) [0xD3#8, port] 3 ∧
    (∀ v, s.config.portDevice = .stub v → Answers (.inp port) s fun t => t =
      { s with regs := { s.regs with a := v }, ports := { s.ports with reads := s.ports.reads + 1 } }) ∧
    (s.config.portDevice = .external → Answers (.inp port) s fun t => t =
      { s with
        regs := { s.regs with a := Config.portIn s.ports.reads port }
        ports := { s.ports with reads := s.ports.reads + 1 } }) ∧
    (∀ v, s.config.portDevice = .stub v → Answers (.out port) s fun t => t =
      { s with ports := { s.ports with lastOutPort := port, lastOutValue := s.regs.a } }) ∧
    (s.config.portDevice = .external → Answers (.out port) s fun t => t = s)

/-- R142 to R146: EI sets INTE and EIP, DI clears INTE, HLT sets HLTA, NOP and its duplicates change nothing; nothing else
changes. HLT's count is the spec's own decision (92 D6). -/
def Obligations.MachineControl : Prop :=
  (HasForm .ei [0xFB#8] 1 ∧ HasForm .di [0xF3#8] 1 ∧ HasForm .hlt [0x76#8] 2 ∧ HasForm .nop [0x00#8] 1 ∧
    ∀ n : BitVec 3, n ≠ 0#3 → HasForm (.nopU n) [0b00#2 ++ n ++ 0#3] 1) ∧
  ∀ s : State,
    (Answers .ei s fun t => t = { s with intr := { s.intr with inte := true, eip := true } }) ∧
    (Answers .di s fun t => t = { s with intr := { s.intr with inte := false } }) ∧
    (Answers .hlt s fun t => t = { s with intr := { s.intr with hlta := true } }) ∧
    (Answers .nop s fun t => t = s) ∧ (∀ n, Answers (.nopU n) s fun t => t = s)

/-! ### Encoding -/

/-- R51 to R58: decoding the bytes of a well-formed instruction, with any bytes after them, gives it back with every operand
as it was, and the bytes after it. -/
def Obligations.DecodeOfEncode : Prop :=
  ∀ (i : Instr) (rest : List Byte), i.wellFormed = true → decode (encode i ++ rest) = .ok i rest

/-- R60: every opcode decodes, to a well-formed instruction whose bytes are the `LEN[op]` bytes read. -/
def Obligations.EncodeOfDecode : Prop :=
  ∀ op b2 b3 : Byte, (instrOf op b2 b3).wellFormed = true ∧ encode (instrOf op b2 b3) = [op, b2, b3].take (lenOf op) ∧
    decode [op, b2, b3] = .ok (instrOf op b2 b3) ([op, b2, b3].drop (lenOf op))

/-- 30_encoding R58, R59: words written out from the opcode map decode to the instruction they stand for. -/
def Obligations.MapWordsDecode : Prop :=
  decode [0x78#8] = .ok (.movRR .a .b) [] ∧ decode [0x21#8, 0x34#8, 0x12#8] = .ok (.lxi .hl 0x1234#16) [] ∧
  decode [0x8E#8] = .ok (.adc .m) [] ∧ decode [0xFE#8, 0x40#8] = .ok (.cpi 0x40#8) [] ∧
  decode [0xFA#8, 0x00#8, 0x02#8] = .ok (.jm 0x0200#16) [] ∧ decode [0xDF#8] = .ok (.rst 3#3) [] ∧
  decode [0xF5#8] = .ok (.push .psw) [] ∧ decode [0xED#8, 0x00#8, 0x02#8] = .ok (.callU 2#2 0x0200#16) [] ∧
  decode [0x76#8] = .ok .hlt []

/-- R59: the twelve undocumented opcodes have the length, the machine cycles and the effect of their documented
equivalents. -/
def Obligations.UndocumentedOpcodesDuplicate : Prop :=
  ∀ e ∈ [(0x08#8, 0x00#8), (0x10#8, 0x00#8), (0x18#8, 0x00#8), (0x20#8, 0x00#8), (0x28#8, 0x00#8), (0x30#8, 0x00#8),
      (0x38#8, 0x00#8), (0xCB#8, 0xC3#8), (0xD9#8, 0xC9#8), (0xDD#8, 0xCD#8), (0xED#8, 0xCD#8), (0xFD#8, 0xCD#8)],
    lenOf e.1 = lenOf e.2 ∧ Config.default.cyclesOf e.1 = Config.default.cyclesOf e.2 ∧
    ∀ (b2 b3 : Byte) (s : State), exec (instrOf e.1 b2 b3) s = exec (instrOf e.2 b2 b3) s
end

