-- ==== Sys2Proof/Laws/Sparse.lean ====
section
/-! SUPPORT. The laws of sparse tables: read after write, canonical form kept, listed offsets bounded. -/

namespace Sys2Proof.Machine

variable {α : Type}

@[simp] theorem Sparse.lookup_nil (dflt : α) (n : Nat) : Sparse.lookup dflt [] n = dflt := rfl

theorem Sparse.lookup_erase_self (dflt : α) (t : List (Nat × α)) (n : Nat) :
    Sparse.lookup dflt (Sparse.erase n t) n = dflt := by
  induction t with
  | nil => rfl
  | cons e t ih =>
    by_cases h : e.1 = n
    · simpa [Sparse.erase, h] using ih
    · simpa [Sparse.erase, h, Sparse.lookup] using ih

theorem Sparse.lookup_erase_ne (dflt : α) (t : List (Nat × α)) {n k : Nat} (hk : k ≠ n) :
    Sparse.lookup dflt (Sparse.erase n t) k = Sparse.lookup dflt t k := by
  induction t with
  | nil => rfl
  | cons e t ih =>
    by_cases h : e.1 = n
    · have hne : e.1 ≠ k := fun h' => hk (h'.symm.trans h)
      simpa [Sparse.erase, h, Sparse.lookup, hne, hk.symm] using ih
    · simp only [Sparse.erase, ne_eq, h, not_false_eq_true, decide_true, List.filter_cons_of_pos, Sparse.lookup]
      split
      · rfl
      · simpa [Sparse.erase] using ih

theorem Sparse.lookup_insert_self (dflt : α) (t : List (Nat × α)) (n : Nat) (v : α) (h : ∀ e ∈ t, e.1 ≠ n) :
    Sparse.lookup dflt (Sparse.insert n v t) n = v := by
  induction t with
  | nil => simp [Sparse.insert, Sparse.lookup]
  | cons e t ih =>
    have he : e.1 ≠ n := h e (by simp)
    by_cases hlt : n < e.1
    · simp [Sparse.insert, hlt, Sparse.lookup]
    · simpa [Sparse.insert, hlt, Sparse.lookup, he] using ih fun x hx => h x (by simp [hx])

theorem Sparse.lookup_insert_ne (dflt : α) (t : List (Nat × α)) {n k : Nat} (v : α) (hk : k ≠ n) :
    Sparse.lookup dflt (Sparse.insert n v t) k = Sparse.lookup dflt t k := by
  induction t with
  | nil => simp [Sparse.insert, Sparse.lookup, hk.symm]
  | cons e t ih =>
    by_cases hlt : n < e.1
    · simp [Sparse.insert, hlt, Sparse.lookup, hk.symm]
    · simp [Sparse.insert, hlt, Sparse.lookup, ih]

theorem Sparse.mem_erase {e : Nat × α} {n : Nat} {t : List (Nat × α)} :
    e ∈ Sparse.erase n t ↔ e ∈ t ∧ e.1 ≠ n := by simp [Sparse.erase]

theorem Sparse.mem_insert {e : Nat × α} {n : Nat} {v : α} {t : List (Nat × α)} :
    e ∈ Sparse.insert n v t ↔ e = (n, v) ∨ e ∈ t := by
  induction t with
  | nil => simp [Sparse.insert]
  | cons x t ih =>
    by_cases hlt : n < x.1
    · simp [Sparse.insert, hlt]
    · simp [Sparse.insert, hlt, ih, or_left_comm]

variable [DecidableEq α]

/-- A read after a write to the same offset gives the value written. -/
theorem Sparse.lookup_write_self (dflt : α) (t : List (Nat × α)) (n : Nat) (v : α) :
    Sparse.lookup dflt (Sparse.write dflt t n v) n = v := by
  unfold Sparse.write
  split
  · rename_i h; rw [Sparse.lookup_erase_self, h]
  · exact Sparse.lookup_insert_self dflt _ n v fun e he => (Sparse.mem_erase.mp he).2

/-- A write leaves every other offset alone. -/
theorem Sparse.lookup_write_ne (dflt : α) (t : List (Nat × α)) {n k : Nat} (v : α) (hk : k ≠ n) :
    Sparse.lookup dflt (Sparse.write dflt t n v) k = Sparse.lookup dflt t k := by
  unfold Sparse.write
  split
  · exact Sparse.lookup_erase_ne dflt t hk
  · rw [Sparse.lookup_insert_ne dflt _ v hk, Sparse.lookup_erase_ne dflt t hk]

/-- What a table holds after a write, at every offset. -/
theorem Sparse.lookup_write (dflt : α) (t : List (Nat × α)) (n k : Nat) (v : α) :
    Sparse.lookup dflt (Sparse.write dflt t n v) k = if k = n then v else Sparse.lookup dflt t k := by
  split
  · rename_i h; rw [h, Sparse.lookup_write_self]
  · rename_i h; exact Sparse.lookup_write_ne dflt t v h

theorem Sparse.mem_write {e : Nat × α} {dflt : α} {t : List (Nat × α)} {n : Nat} {v : α}
    (h : e ∈ Sparse.write dflt t n v) : e = (n, v) ∨ e ∈ t := by
  unfold Sparse.write at h
  split at h
  · exact .inr (Sparse.mem_erase.mp h).1
  · exact (Sparse.mem_insert.mp h).imp_right fun he => (Sparse.mem_erase.mp he).1

omit [DecidableEq α] in
theorem Sparse.insert_rising (t : List (Nat × α)) (n : Nat) (v : α) (h : t.Pairwise (fun x y => x.1 < y.1))
    (hn : ∀ e ∈ t, e.1 ≠ n) : (Sparse.insert n v t).Pairwise (fun x y => x.1 < y.1) := by
  induction t with
  | nil => simp [Sparse.insert]
  | cons x t ih =>
    obtain ⟨hx, ht⟩ := List.pairwise_cons.mp h
    by_cases hlt : n < x.1
    · simp only [Sparse.insert, hlt, if_true]
      refine List.pairwise_cons.mpr ⟨?_, h⟩
      intro y hy
      rcases List.mem_cons.mp hy with rfl | hy
      · exact hlt
      · exact hlt.trans (hx y hy)
    · simp only [Sparse.insert, hlt, if_false]
      refine List.pairwise_cons.mpr ⟨?_, ih ht fun e he => hn e (by simp [he])⟩
      intro y hy
      rcases Sparse.mem_insert.mp hy with rfl | hy
      · have := hn x (by simp)
        simp only
        omega
      · exact hx y hy

/-- A write keeps the canonical form. -/
theorem Sparse.wf_write (dflt : α) (t : List (Nat × α)) (n : Nat) (v : α) (h : Sparse.Wf dflt t) :
    Sparse.Wf dflt (Sparse.write dflt t n v) := by
  have herase : (Sparse.erase n t).Pairwise (fun x y => x.1 < y.1) := h.1.filter _
  refine ⟨?_, fun e he => ?_⟩
  · unfold Sparse.write
    split
    · exact herase
    · exact Sparse.insert_rising _ n v herase fun e he => (Sparse.mem_erase.mp he).2
  · unfold Sparse.write at he
    split at he
    · exact h.2 e (Sparse.mem_erase.mp he).1
    · rename_i hv
      rcases Sparse.mem_insert.mp he with rfl | he
      · exact hv
      · exact h.2 e (Sparse.mem_erase.mp he).1

/-- A write within a bound keeps every listed offset within it. -/
theorem Sparse.bound_write (dflt : α) (t : List (Nat × α)) (n : Nat) (v : α) (b : Nat) (h : ∀ e ∈ t, e.1 < b)
    (hn : n < b) : ∀ e ∈ Sparse.write dflt t n v, e.1 < b := by
  intro e he
  rcases Sparse.mem_write he with rfl | he
  · exact hn
  · exact h e he

omit [DecidableEq α] in
/-- Two canonical tables that hold the same at every offset are equal: equal memories are equal data. -/
theorem Sparse.ext_of_wf (dflt : α) (t u : List (Nat × α)) (ht : Sparse.Wf dflt t) (hu : Sparse.Wf dflt u)
    (h : ∀ n, Sparse.lookup dflt t n = Sparse.lookup dflt u n) : t = u := by
  have low : ∀ (w : List (Nat × α)) (k : Nat), (∀ e ∈ w, k < e.1) → Sparse.lookup dflt w k = dflt := by
    intro w k hw
    induction w with
    | nil => rfl
    | cons e w ih =>
      have := hw e (by simp)
      simp only [Sparse.lookup, show e.1 ≠ k by omega, if_false]
      exact ih fun x hx => hw x (by simp [hx])
  induction t generalizing u with
  | nil =>
    cases u with
    | nil => rfl
    | cons e u =>
      have := h e.1
      simp only [Sparse.lookup, if_true] at this
      exact absurd this.symm (hu.2 e (by simp))
  | cons e t ih =>
    obtain ⟨het, htp⟩ := List.pairwise_cons.mp ht.1
    cases u with
    | nil =>
      have := h e.1
      simp only [Sparse.lookup, if_true] at this
      exact absurd this (ht.2 e (by simp))
    | cons f u =>
      obtain ⟨hfu, hup⟩ := List.pairwise_cons.mp hu.1
      have hef : e.1 = f.1 := by
        rcases Nat.lt_trichotomy e.1 f.1 with hlt | heq | hgt
        · have := h e.1
          rw [low (f :: u) e.1 (by
            intro x hx
            rcases List.mem_cons.mp hx with rfl | hx
            · exact hlt
            · exact hlt.trans (hfu x hx))] at this
          simp only [Sparse.lookup, if_true] at this
          exact absurd this (ht.2 e (by simp))
        · exact heq
        · have := h f.1
          rw [low (e :: t) f.1 (by
            intro x hx
            rcases List.mem_cons.mp hx with rfl | hx
            · exact hgt
            · exact hgt.trans (het x hx))] at this
          simp only [Sparse.lookup, if_true] at this
          exact absurd this.symm (hu.2 f (by simp))
      have hval : e.2 = f.2 := by
        have := h e.1
        simpa [Sparse.lookup, hef] using this
      have htail : t = u := by
        refine ih u ⟨htp, fun x hx => ht.2 x (by simp [hx])⟩ ⟨hup, fun x hx => hu.2 x (by simp [hx])⟩ fun n => ?_
        by_cases hn : n = e.1
        · rw [hn, low t e.1 het, low u e.1 (by rw [hef]; exact hfu)]
        · have := h n
          simp only [Sparse.lookup, show e.1 ≠ n from fun h' => hn h'.symm, show f.1 ≠ n from fun h' => hn (hef.trans h').symm,
            if_false] at this
          exact this
      rw [htail, Prod.ext hef hval]

end Sys2Proof.Machine
end

