-- ==== Sys2Proof/Laws/State.lean ====
section
/-! SUPPORT. One lemma per field of State per update, so that no later proof unfolds a record update: what each shared
operation changes, and that it leaves every other field as it was. -/

namespace Sys2Proof.Machine

/-! ### Memory and notifications -/

@[simp] theorem State.write_regs (s : State) (addr : Nat) (v : Byte) (space : Space) : (s.write addr v space).regs = s.regs := rfl

@[simp] theorem State.write_flags (s : State) (addr : Nat) (v : Byte) (space : Space) : (s.write addr v space).flags = s.flags := rfl

@[simp] theorem State.write_sp (s : State) (addr : Nat) (v : Byte) (space : Space) : (s.write addr v space).sp = s.sp := rfl

@[simp] theorem State.write_pc (s : State) (addr : Nat) (v : Byte) (space : Space) : (s.write addr v space).pc = s.pc := rfl

@[simp] theorem State.write_intr (s : State) (addr : Nat) (v : Byte) (space : Space) : (s.write addr v space).intr = s.intr := rfl

@[simp] theorem State.write_map (s : State) (addr : Nat) (v : Byte) (space : Space) : (s.write addr v space).map = s.map := rfl

@[simp] theorem State.write_seq (s : State) (addr : Nat) (v : Byte) (space : Space) : (s.write addr v space).seq = s.seq := rfl

@[simp] theorem State.write_raster (s : State) (addr : Nat) (v : Byte) (space : Space) : (s.write addr v space).raster = s.raster := rfl

@[simp] theorem State.write_counts (s : State) (addr : Nat) (v : Byte) (space : Space) : (s.write addr v space).counts = s.counts := rfl

@[simp] theorem State.write_ports (s : State) (addr : Nat) (v : Byte) (space : Space) : (s.write addr v space).ports = s.ports := rfl

@[simp] theorem State.write_img (s : State) (addr : Nat) (v : Byte) (space : Space) : (s.write addr v space).img = Sparse.write (0#8) s.img (s.translate addr space) v := rfl

@[simp] theorem State.write_config (s : State) (addr : Nat) (v : Byte) (space : Space) : (s.write addr v space).config = s.config := rfl

@[simp] theorem State.notify_regs (s : State) (addr : Nat) (kind : AccessKind) (space : Space) : (s.notify addr kind space).regs = s.regs := rfl

@[simp] theorem State.notify_flags (s : State) (addr : Nat) (kind : AccessKind) (space : Space) : (s.notify addr kind space).flags = s.flags := rfl

@[simp] theorem State.notify_sp (s : State) (addr : Nat) (kind : AccessKind) (space : Space) : (s.notify addr kind space).sp = s.sp := rfl

@[simp] theorem State.notify_pc (s : State) (addr : Nat) (kind : AccessKind) (space : Space) : (s.notify addr kind space).pc = s.pc := rfl

@[simp] theorem State.notify_intr (s : State) (addr : Nat) (kind : AccessKind) (space : Space) : (s.notify addr kind space).intr = s.intr := rfl

@[simp] theorem State.notify_map (s : State) (addr : Nat) (kind : AccessKind) (space : Space) : (s.notify addr kind space).map = s.map := rfl

@[simp] theorem State.notify_seq (s : State) (addr : Nat) (kind : AccessKind) (space : Space) : (s.notify addr kind space).seq = s.seq := rfl

@[simp] theorem State.notify_raster (s : State) (addr : Nat) (kind : AccessKind) (space : Space) : (s.notify addr kind space).raster = s.raster := rfl

@[simp] theorem State.notify_counts (s : State) (addr : Nat) (kind : AccessKind) (space : Space) : (s.notify addr kind space).counts = s.counts.bump kind (s.translate addr space) := rfl

@[simp] theorem State.notify_ports (s : State) (addr : Nat) (kind : AccessKind) (space : Space) : (s.notify addr kind space).ports = s.ports := rfl

@[simp] theorem State.notify_img (s : State) (addr : Nat) (kind : AccessKind) (space : Space) : (s.notify addr kind space).img = s.img := rfl

@[simp] theorem State.notify_config (s : State) (addr : Nat) (kind : AccessKind) (space : Space) : (s.notify addr kind space).config = s.config := rfl

@[simp] theorem State.memRead_fst (s : State) (addr : Word) (space : Space) (kind : AccessKind) :
    (s.memRead addr space kind).1 = s.read addr.toNat space := rfl

@[simp] theorem State.memRead_regs (s : State) (addr : Word) (space : Space) (kind : AccessKind) : ((s.memRead addr space kind).2).regs = s.regs := rfl

@[simp] theorem State.memRead_flags (s : State) (addr : Word) (space : Space) (kind : AccessKind) : ((s.memRead addr space kind).2).flags = s.flags := rfl

@[simp] theorem State.memRead_sp (s : State) (addr : Word) (space : Space) (kind : AccessKind) : ((s.memRead addr space kind).2).sp = s.sp := rfl

@[simp] theorem State.memRead_pc (s : State) (addr : Word) (space : Space) (kind : AccessKind) : ((s.memRead addr space kind).2).pc = s.pc := rfl

@[simp] theorem State.memRead_intr (s : State) (addr : Word) (space : Space) (kind : AccessKind) : ((s.memRead addr space kind).2).intr = s.intr := rfl

@[simp] theorem State.memRead_map (s : State) (addr : Word) (space : Space) (kind : AccessKind) : ((s.memRead addr space kind).2).map = s.map := rfl

@[simp] theorem State.memRead_seq (s : State) (addr : Word) (space : Space) (kind : AccessKind) : ((s.memRead addr space kind).2).seq = s.seq := rfl

@[simp] theorem State.memRead_raster (s : State) (addr : Word) (space : Space) (kind : AccessKind) : ((s.memRead addr space kind).2).raster = s.raster := rfl

@[simp] theorem State.memRead_counts (s : State) (addr : Word) (space : Space) (kind : AccessKind) : ((s.memRead addr space kind).2).counts = s.counts.bump kind (s.translate addr.toNat space) := rfl

@[simp] theorem State.memRead_ports (s : State) (addr : Word) (space : Space) (kind : AccessKind) : ((s.memRead addr space kind).2).ports = s.ports := rfl

@[simp] theorem State.memRead_img (s : State) (addr : Word) (space : Space) (kind : AccessKind) : ((s.memRead addr space kind).2).img = s.img := rfl

@[simp] theorem State.memRead_config (s : State) (addr : Word) (space : Space) (kind : AccessKind) : ((s.memRead addr space kind).2).config = s.config := rfl

@[simp] theorem State.memWrite_regs (s : State) (addr : Word) (v : Byte) (space : Space) : (s.memWrite addr v space).regs = s.regs := rfl

@[simp] theorem State.memWrite_flags (s : State) (addr : Word) (v : Byte) (space : Space) : (s.memWrite addr v space).flags = s.flags := rfl

@[simp] theorem State.memWrite_sp (s : State) (addr : Word) (v : Byte) (space : Space) : (s.memWrite addr v space).sp = s.sp := rfl

@[simp] theorem State.memWrite_pc (s : State) (addr : Word) (v : Byte) (space : Space) : (s.memWrite addr v space).pc = s.pc := rfl

@[simp] theorem State.memWrite_intr (s : State) (addr : Word) (v : Byte) (space : Space) : (s.memWrite addr v space).intr = s.intr := rfl

@[simp] theorem State.memWrite_map (s : State) (addr : Word) (v : Byte) (space : Space) : (s.memWrite addr v space).map = s.map := rfl

@[simp] theorem State.memWrite_seq (s : State) (addr : Word) (v : Byte) (space : Space) : (s.memWrite addr v space).seq = s.seq := rfl

@[simp] theorem State.memWrite_raster (s : State) (addr : Word) (v : Byte) (space : Space) : (s.memWrite addr v space).raster = s.raster := rfl

@[simp] theorem State.memWrite_counts (s : State) (addr : Word) (v : Byte) (space : Space) : (s.memWrite addr v space).counts = s.counts.bump .write (s.translate addr.toNat space) := rfl

@[simp] theorem State.memWrite_ports (s : State) (addr : Word) (v : Byte) (space : Space) : (s.memWrite addr v space).ports = s.ports := rfl

@[simp] theorem State.memWrite_img (s : State) (addr : Word) (v : Byte) (space : Space) : (s.memWrite addr v space).img = Sparse.write (0#8) s.img (s.translate addr.toNat space) v := rfl

@[simp] theorem State.memWrite_config (s : State) (addr : Word) (v : Byte) (space : Space) : (s.memWrite addr v space).config = s.config := rfl

@[simp] theorem State.fetch_fst (s : State) : s.fetch.1 = s.read s.pc.toNat .ram := rfl

@[simp] theorem State.fetch_regs (s : State) : (s.fetch.2).regs = s.regs := rfl

@[simp] theorem State.fetch_flags (s : State) : (s.fetch.2).flags = s.flags := rfl

@[simp] theorem State.fetch_sp (s : State) : (s.fetch.2).sp = s.sp := rfl

@[simp] theorem State.fetch_pc (s : State) : (s.fetch.2).pc = s.pc + 1 := rfl

@[simp] theorem State.fetch_intr (s : State) : (s.fetch.2).intr = s.intr := rfl

@[simp] theorem State.fetch_map (s : State) : (s.fetch.2).map = s.map := rfl

@[simp] theorem State.fetch_seq (s : State) : (s.fetch.2).seq = s.seq := rfl

@[simp] theorem State.fetch_raster (s : State) : (s.fetch.2).raster = s.raster := rfl

@[simp] theorem State.fetch_counts (s : State) : (s.fetch.2).counts = s.counts.bump .run (s.translate s.pc.toNat .ram) := rfl

@[simp] theorem State.fetch_ports (s : State) : (s.fetch.2).ports = s.ports := rfl

@[simp] theorem State.fetch_img (s : State) : (s.fetch.2).img = s.img := rfl

@[simp] theorem State.fetch_config (s : State) : (s.fetch.2).config = s.config := rfl

/-! ### The stack, restart, acceptance, return -/

@[simp] theorem State.push16_regs (s : State) (v : Word) : (s.push16 v).regs = s.regs := rfl

@[simp] theorem State.push16_flags (s : State) (v : Word) : (s.push16 v).flags = s.flags := rfl

@[simp] theorem State.push16_sp (s : State) (v : Word) : (s.push16 v).sp = s.sp - 1 - 1 := rfl

@[simp] theorem State.push16_pc (s : State) (v : Word) : (s.push16 v).pc = s.pc := rfl

@[simp] theorem State.push16_intr (s : State) (v : Word) : (s.push16 v).intr = s.intr := rfl

@[simp] theorem State.push16_map (s : State) (v : Word) : (s.push16 v).map = s.map := rfl

@[simp] theorem State.push16_seq (s : State) (v : Word) : (s.push16 v).seq = s.seq := rfl

@[simp] theorem State.push16_raster (s : State) (v : Word) : (s.push16 v).raster = s.raster := rfl

@[simp] theorem State.push16_counts (s : State) (v : Word) : (s.push16 v).counts = (s.counts.bump .write (s.translate (s.sp - 1).toNat .stack)).bump .write
      (s.translate (s.sp - 1 - 1).toNat .stack) := rfl

@[simp] theorem State.push16_ports (s : State) (v : Word) : (s.push16 v).ports = s.ports := rfl

@[simp] theorem State.push16_img (s : State) (v : Word) : (s.push16 v).img = Sparse.write (0#8) (Sparse.write (0#8) s.img (s.translate (s.sp - 1).toNat .stack) (v.extractLsb' 8 8))
      (s.translate (s.sp - 1 - 1).toNat .stack) (v.extractLsb' 0 8) := rfl

@[simp] theorem State.push16_config (s : State) (v : Word) : (s.push16 v).config = s.config := rfl

@[simp] theorem State.pop16_fst (s : State) :
    s.pop16.1 = s.read (s.sp + 1).toNat .stack ++ s.read s.sp.toNat .stack := rfl

@[simp] theorem State.pop16_regs (s : State) : (s.pop16.2).regs = s.regs := rfl

@[simp] theorem State.pop16_flags (s : State) : (s.pop16.2).flags = s.flags := rfl

@[simp] theorem State.pop16_sp (s : State) : (s.pop16.2).sp = s.sp + 1 + 1 := rfl

@[simp] theorem State.pop16_pc (s : State) : (s.pop16.2).pc = s.pc := rfl

@[simp] theorem State.pop16_intr (s : State) : (s.pop16.2).intr = s.intr := rfl

@[simp] theorem State.pop16_map (s : State) : (s.pop16.2).map = s.map := rfl

@[simp] theorem State.pop16_seq (s : State) : (s.pop16.2).seq = s.seq := rfl

@[simp] theorem State.pop16_raster (s : State) : (s.pop16.2).raster = s.raster := rfl

@[simp] theorem State.pop16_counts (s : State) : (s.pop16.2).counts = (s.counts.bump .read (s.translate s.sp.toNat .stack)).bump .read
      (s.translate (s.sp + 1).toNat .stack) := rfl

@[simp] theorem State.pop16_ports (s : State) : (s.pop16.2).ports = s.ports := rfl

@[simp] theorem State.pop16_img (s : State) : (s.pop16.2).img = s.img := rfl

@[simp] theorem State.pop16_config (s : State) : (s.pop16.2).config = s.config := rfl

@[simp] theorem State.restart_regs (s : State) (n : BitVec 3) : (s.restart n).regs = s.regs := rfl

@[simp] theorem State.restart_flags (s : State) (n : BitVec 3) : (s.restart n).flags = s.flags := rfl

@[simp] theorem State.restart_sp (s : State) (n : BitVec 3) : (s.restart n).sp = s.sp - 1 - 1 := rfl

@[simp] theorem State.restart_pc (s : State) (n : BitVec 3) : (s.restart n).pc = BitVec.ofNat 16 (8 * n.toNat) := rfl

@[simp] theorem State.restart_intr (s : State) (n : BitVec 3) : (s.restart n).intr = s.intr := rfl

@[simp] theorem State.restart_map (s : State) (n : BitVec 3) : (s.restart n).map = s.map := rfl

@[simp] theorem State.restart_seq (s : State) (n : BitVec 3) : (s.restart n).seq = s.seq := rfl

@[simp] theorem State.restart_raster (s : State) (n : BitVec 3) : (s.restart n).raster = s.raster := rfl

@[simp] theorem State.restart_counts (s : State) (n : BitVec 3) : (s.restart n).counts = (s.push16 s.pc).counts := rfl

@[simp] theorem State.restart_ports (s : State) (n : BitVec 3) : (s.restart n).ports = s.ports := rfl

@[simp] theorem State.restart_img (s : State) (n : BitVec 3) : (s.restart n).img = (s.push16 s.pc).img := rfl

@[simp] theorem State.restart_config (s : State) (n : BitVec 3) : (s.restart n).config = s.config := rfl

@[simp] theorem State.acceptInterrupt_regs (s : State) : (s.acceptInterrupt).regs = s.regs := rfl

@[simp] theorem State.acceptInterrupt_flags (s : State) : (s.acceptInterrupt).flags = s.flags := rfl

@[simp] theorem State.acceptInterrupt_sp (s : State) : (s.acceptInterrupt).sp = s.sp - 1 - 1 := rfl

@[simp] theorem State.acceptInterrupt_pc (s : State) : (s.acceptInterrupt).pc = 0x0038#16 := rfl

@[simp] theorem State.acceptInterrupt_intr (s : State) : (s.acceptInterrupt).intr = { s.intr with inte := false, iff := false, hlta := false } := rfl

@[simp] theorem State.acceptInterrupt_map (s : State) : (s.acceptInterrupt).map = s.map := rfl

@[simp] theorem State.acceptInterrupt_seq (s : State) : (s.acceptInterrupt).seq = { s.seq with ir := rst7Opcode } := rfl

@[simp] theorem State.acceptInterrupt_raster (s : State) : (s.acceptInterrupt).raster = s.raster := rfl

@[simp] theorem State.acceptInterrupt_counts (s : State) : (s.acceptInterrupt).counts = (s.push16 s.pc).counts := rfl

@[simp] theorem State.acceptInterrupt_ports (s : State) : (s.acceptInterrupt).ports = s.ports := rfl

@[simp] theorem State.acceptInterrupt_img (s : State) : (s.acceptInterrupt).img = (s.push16 s.pc).img := rfl

@[simp] theorem State.acceptInterrupt_config (s : State) : (s.acceptInterrupt).config = s.config := rfl

@[simp] theorem State.returnToCaller_regs (s : State) : (s.returnToCaller).regs = s.regs := rfl

@[simp] theorem State.returnToCaller_flags (s : State) : (s.returnToCaller).flags = s.flags := rfl

@[simp] theorem State.returnToCaller_sp (s : State) : (s.returnToCaller).sp = s.sp + 1 + 1 := rfl

@[simp] theorem State.returnToCaller_pc (s : State) : (s.returnToCaller).pc = s.pop16.1 := rfl

@[simp] theorem State.returnToCaller_intr (s : State) : (s.returnToCaller).intr = s.intr := rfl

@[simp] theorem State.returnToCaller_map (s : State) : (s.returnToCaller).map = s.map := rfl

@[simp] theorem State.returnToCaller_seq (s : State) : (s.returnToCaller).seq = s.seq := rfl

@[simp] theorem State.returnToCaller_raster (s : State) : (s.returnToCaller).raster = s.raster := rfl

@[simp] theorem State.returnToCaller_counts (s : State) : (s.returnToCaller).counts = s.pop16.2.counts := rfl

@[simp] theorem State.returnToCaller_ports (s : State) : (s.returnToCaller).ports = s.ports := rfl

@[simp] theorem State.returnToCaller_img (s : State) : (s.returnToCaller).img = s.img := rfl

@[simp] theorem State.returnToCaller_config (s : State) : (s.returnToCaller).config = s.config := rfl

/-! ### Registers, pairs and operands -/

@[simp] theorem State.setReg_regs (s : State) (r : Reg) (v : Byte) : (s.setReg r v).regs = s.regs.set v r := rfl

@[simp] theorem State.setReg_flags (s : State) (r : Reg) (v : Byte) : (s.setReg r v).flags = s.flags := rfl

@[simp] theorem State.setReg_sp (s : State) (r : Reg) (v : Byte) : (s.setReg r v).sp = s.sp := rfl

@[simp] theorem State.setReg_pc (s : State) (r : Reg) (v : Byte) : (s.setReg r v).pc = s.pc := rfl

@[simp] theorem State.setReg_intr (s : State) (r : Reg) (v : Byte) : (s.setReg r v).intr = s.intr := rfl

@[simp] theorem State.setReg_map (s : State) (r : Reg) (v : Byte) : (s.setReg r v).map = s.map := rfl

@[simp] theorem State.setReg_seq (s : State) (r : Reg) (v : Byte) : (s.setReg r v).seq = s.seq := rfl

@[simp] theorem State.setReg_raster (s : State) (r : Reg) (v : Byte) : (s.setReg r v).raster = s.raster := rfl

@[simp] theorem State.setReg_counts (s : State) (r : Reg) (v : Byte) : (s.setReg r v).counts = s.counts := rfl

@[simp] theorem State.setReg_ports (s : State) (r : Reg) (v : Byte) : (s.setReg r v).ports = s.ports := rfl

@[simp] theorem State.setReg_img (s : State) (r : Reg) (v : Byte) : (s.setReg r v).img = s.img := rfl

@[simp] theorem State.setReg_config (s : State) (r : Reg) (v : Byte) : (s.setReg r v).config = s.config := rfl

@[simp] theorem State.setBc_regs (s : State) (v : Word) : (s.setBc v).regs = { s.regs with b := v.extractLsb' 8 8, c := v.extractLsb' 0 8 } := rfl

@[simp] theorem State.setBc_flags (s : State) (v : Word) : (s.setBc v).flags = s.flags := rfl

@[simp] theorem State.setBc_sp (s : State) (v : Word) : (s.setBc v).sp = s.sp := rfl

@[simp] theorem State.setBc_pc (s : State) (v : Word) : (s.setBc v).pc = s.pc := rfl

@[simp] theorem State.setBc_intr (s : State) (v : Word) : (s.setBc v).intr = s.intr := rfl

@[simp] theorem State.setBc_map (s : State) (v : Word) : (s.setBc v).map = s.map := rfl

@[simp] theorem State.setBc_seq (s : State) (v : Word) : (s.setBc v).seq = s.seq := rfl

@[simp] theorem State.setBc_raster (s : State) (v : Word) : (s.setBc v).raster = s.raster := rfl

@[simp] theorem State.setBc_counts (s : State) (v : Word) : (s.setBc v).counts = s.counts := rfl

@[simp] theorem State.setBc_ports (s : State) (v : Word) : (s.setBc v).ports = s.ports := rfl

@[simp] theorem State.setBc_img (s : State) (v : Word) : (s.setBc v).img = s.img := rfl

@[simp] theorem State.setBc_config (s : State) (v : Word) : (s.setBc v).config = s.config := rfl

@[simp] theorem State.setDe_regs (s : State) (v : Word) : (s.setDe v).regs = { s.regs with d := v.extractLsb' 8 8, e := v.extractLsb' 0 8 } := rfl

@[simp] theorem State.setDe_flags (s : State) (v : Word) : (s.setDe v).flags = s.flags := rfl

@[simp] theorem State.setDe_sp (s : State) (v : Word) : (s.setDe v).sp = s.sp := rfl

@[simp] theorem State.setDe_pc (s : State) (v : Word) : (s.setDe v).pc = s.pc := rfl

@[simp] theorem State.setDe_intr (s : State) (v : Word) : (s.setDe v).intr = s.intr := rfl

@[simp] theorem State.setDe_map (s : State) (v : Word) : (s.setDe v).map = s.map := rfl

@[simp] theorem State.setDe_seq (s : State) (v : Word) : (s.setDe v).seq = s.seq := rfl

@[simp] theorem State.setDe_raster (s : State) (v : Word) : (s.setDe v).raster = s.raster := rfl

@[simp] theorem State.setDe_counts (s : State) (v : Word) : (s.setDe v).counts = s.counts := rfl

@[simp] theorem State.setDe_ports (s : State) (v : Word) : (s.setDe v).ports = s.ports := rfl

@[simp] theorem State.setDe_img (s : State) (v : Word) : (s.setDe v).img = s.img := rfl

@[simp] theorem State.setDe_config (s : State) (v : Word) : (s.setDe v).config = s.config := rfl

@[simp] theorem State.setHl_regs (s : State) (v : Word) : (s.setHl v).regs = { s.regs with h := v.extractLsb' 8 8, l := v.extractLsb' 0 8 } := rfl

@[simp] theorem State.setHl_flags (s : State) (v : Word) : (s.setHl v).flags = s.flags := rfl

@[simp] theorem State.setHl_sp (s : State) (v : Word) : (s.setHl v).sp = s.sp := rfl

@[simp] theorem State.setHl_pc (s : State) (v : Word) : (s.setHl v).pc = s.pc := rfl

@[simp] theorem State.setHl_intr (s : State) (v : Word) : (s.setHl v).intr = s.intr := rfl

@[simp] theorem State.setHl_map (s : State) (v : Word) : (s.setHl v).map = s.map := rfl

@[simp] theorem State.setHl_seq (s : State) (v : Word) : (s.setHl v).seq = s.seq := rfl

@[simp] theorem State.setHl_raster (s : State) (v : Word) : (s.setHl v).raster = s.raster := rfl

@[simp] theorem State.setHl_counts (s : State) (v : Word) : (s.setHl v).counts = s.counts := rfl

@[simp] theorem State.setHl_ports (s : State) (v : Word) : (s.setHl v).ports = s.ports := rfl

@[simp] theorem State.setHl_img (s : State) (v : Word) : (s.setHl v).img = s.img := rfl

@[simp] theorem State.setHl_config (s : State) (v : Word) : (s.setHl v).config = s.config := rfl

@[simp] theorem State.setPair_flags (s : State) (p : RegPair) (v : Word) : (s.setPair p v).flags = s.flags := by cases p <;> rfl

@[simp] theorem State.setPair_pc (s : State) (p : RegPair) (v : Word) : (s.setPair p v).pc = s.pc := by cases p <;> rfl

@[simp] theorem State.setPair_intr (s : State) (p : RegPair) (v : Word) : (s.setPair p v).intr = s.intr := by cases p <;> rfl

@[simp] theorem State.setPair_map (s : State) (p : RegPair) (v : Word) : (s.setPair p v).map = s.map := by cases p <;> rfl

@[simp] theorem State.setPair_seq (s : State) (p : RegPair) (v : Word) : (s.setPair p v).seq = s.seq := by cases p <;> rfl

@[simp] theorem State.setPair_raster (s : State) (p : RegPair) (v : Word) : (s.setPair p v).raster = s.raster := by cases p <;> rfl

@[simp] theorem State.setPair_counts (s : State) (p : RegPair) (v : Word) : (s.setPair p v).counts = s.counts := by cases p <;> rfl

@[simp] theorem State.setPair_ports (s : State) (p : RegPair) (v : Word) : (s.setPair p v).ports = s.ports := by cases p <;> rfl

@[simp] theorem State.setPair_img (s : State) (p : RegPair) (v : Word) : (s.setPair p v).img = s.img := by cases p <;> rfl

@[simp] theorem State.setPair_config (s : State) (p : RegPair) (v : Word) : (s.setPair p v).config = s.config := by cases p <;> rfl

@[simp] theorem State.readM_fst (s : State) : s.readM.1 = s.read s.hl.toNat .ram := rfl

@[simp] theorem State.readM_regs (s : State) : (s.readM.2).regs = s.regs := rfl

@[simp] theorem State.readM_flags (s : State) : (s.readM.2).flags = s.flags := rfl

@[simp] theorem State.readM_sp (s : State) : (s.readM.2).sp = s.sp := rfl

@[simp] theorem State.readM_pc (s : State) : (s.readM.2).pc = s.pc := rfl

@[simp] theorem State.readM_intr (s : State) : (s.readM.2).intr = s.intr := rfl

@[simp] theorem State.readM_map (s : State) : (s.readM.2).map = s.map := rfl

@[simp] theorem State.readM_seq (s : State) : (s.readM.2).seq = s.seq := rfl

@[simp] theorem State.readM_raster (s : State) : (s.readM.2).raster = s.raster := rfl

@[simp] theorem State.readM_counts (s : State) : (s.readM.2).counts = s.counts.bump .read (s.translate s.hl.toNat .ram) := rfl

@[simp] theorem State.readM_ports (s : State) : (s.readM.2).ports = s.ports := rfl

@[simp] theorem State.readM_img (s : State) : (s.readM.2).img = s.img := rfl

@[simp] theorem State.readM_config (s : State) : (s.readM.2).config = s.config := rfl

@[simp] theorem State.writeM_regs (s : State) (v : Byte) : (s.writeM v).regs = s.regs := rfl

@[simp] theorem State.writeM_flags (s : State) (v : Byte) : (s.writeM v).flags = s.flags := rfl

@[simp] theorem State.writeM_sp (s : State) (v : Byte) : (s.writeM v).sp = s.sp := rfl

@[simp] theorem State.writeM_pc (s : State) (v : Byte) : (s.writeM v).pc = s.pc := rfl

@[simp] theorem State.writeM_intr (s : State) (v : Byte) : (s.writeM v).intr = s.intr := rfl

@[simp] theorem State.writeM_map (s : State) (v : Byte) : (s.writeM v).map = s.map := rfl

@[simp] theorem State.writeM_seq (s : State) (v : Byte) : (s.writeM v).seq = s.seq := rfl

@[simp] theorem State.writeM_raster (s : State) (v : Byte) : (s.writeM v).raster = s.raster := rfl

@[simp] theorem State.writeM_counts (s : State) (v : Byte) : (s.writeM v).counts = s.counts.bump .write (s.translate s.hl.toNat .ram) := rfl

@[simp] theorem State.writeM_ports (s : State) (v : Byte) : (s.writeM v).ports = s.ports := rfl

@[simp] theorem State.writeM_img (s : State) (v : Byte) : (s.writeM v).img = Sparse.write (0#8) s.img (s.translate s.hl.toNat .ram) v := rfl

@[simp] theorem State.writeM_config (s : State) (v : Byte) : (s.writeM v).config = s.config := rfl

@[simp] theorem State.afterOperand_regs (s : State) (o : Operand) : (s.afterOperand o).regs = s.regs := by cases o <;> rfl

@[simp] theorem State.afterOperand_flags (s : State) (o : Operand) : (s.afterOperand o).flags = s.flags := by cases o <;> rfl

@[simp] theorem State.afterOperand_sp (s : State) (o : Operand) : (s.afterOperand o).sp = s.sp := by cases o <;> rfl

@[simp] theorem State.afterOperand_pc (s : State) (o : Operand) : (s.afterOperand o).pc = s.pc := by cases o <;> rfl

@[simp] theorem State.afterOperand_intr (s : State) (o : Operand) : (s.afterOperand o).intr = s.intr := by cases o <;> rfl

@[simp] theorem State.afterOperand_map (s : State) (o : Operand) : (s.afterOperand o).map = s.map := by cases o <;> rfl

@[simp] theorem State.afterOperand_seq (s : State) (o : Operand) : (s.afterOperand o).seq = s.seq := by cases o <;> rfl

@[simp] theorem State.afterOperand_raster (s : State) (o : Operand) : (s.afterOperand o).raster = s.raster := by cases o <;> rfl

@[simp] theorem State.afterOperand_ports (s : State) (o : Operand) : (s.afterOperand o).ports = s.ports := by cases o <;> rfl

@[simp] theorem State.afterOperand_img (s : State) (o : Operand) : (s.afterOperand o).img = s.img := by cases o <;> rfl

@[simp] theorem State.afterOperand_config (s : State) (o : Operand) : (s.afterOperand o).config = s.config := by cases o <;> rfl

@[simp] theorem State.writeOperand_flags (s : State) (o : Operand) (v : Byte) : (s.writeOperand o v).flags = s.flags := by cases o <;> rfl

@[simp] theorem State.writeOperand_sp (s : State) (o : Operand) (v : Byte) : (s.writeOperand o v).sp = s.sp := by cases o <;> rfl

@[simp] theorem State.writeOperand_pc (s : State) (o : Operand) (v : Byte) : (s.writeOperand o v).pc = s.pc := by cases o <;> rfl

@[simp] theorem State.writeOperand_intr (s : State) (o : Operand) (v : Byte) : (s.writeOperand o v).intr = s.intr := by cases o <;> rfl

@[simp] theorem State.writeOperand_map (s : State) (o : Operand) (v : Byte) : (s.writeOperand o v).map = s.map := by cases o <;> rfl

@[simp] theorem State.writeOperand_seq (s : State) (o : Operand) (v : Byte) : (s.writeOperand o v).seq = s.seq := by cases o <;> rfl

@[simp] theorem State.writeOperand_raster (s : State) (o : Operand) (v : Byte) : (s.writeOperand o v).raster = s.raster := by cases o <;> rfl

@[simp] theorem State.writeOperand_ports (s : State) (o : Operand) (v : Byte) : (s.writeOperand o v).ports = s.ports := by cases o <;> rfl

@[simp] theorem State.writeOperand_config (s : State) (o : Operand) (v : Byte) : (s.writeOperand o v).config = s.config := by cases o <;> rfl

/-! ### Results written back -/

@[simp] theorem State.setAcc_regs (s : State) (t : AluResult) : (s.setAcc t).regs = { s.regs with a := t.r } := rfl

@[simp] theorem State.setAcc_flags (s : State) (t : AluResult) : (s.setAcc t).flags = t.flags := rfl

@[simp] theorem State.setAcc_sp (s : State) (t : AluResult) : (s.setAcc t).sp = s.sp := rfl

@[simp] theorem State.setAcc_pc (s : State) (t : AluResult) : (s.setAcc t).pc = s.pc := rfl

@[simp] theorem State.setAcc_intr (s : State) (t : AluResult) : (s.setAcc t).intr = s.intr := rfl

@[simp] theorem State.setAcc_map (s : State) (t : AluResult) : (s.setAcc t).map = s.map := rfl

@[simp] theorem State.setAcc_seq (s : State) (t : AluResult) : (s.setAcc t).seq = s.seq := rfl

@[simp] theorem State.setAcc_raster (s : State) (t : AluResult) : (s.setAcc t).raster = s.raster := rfl

@[simp] theorem State.setAcc_counts (s : State) (t : AluResult) : (s.setAcc t).counts = s.counts := rfl

@[simp] theorem State.setAcc_ports (s : State) (t : AluResult) : (s.setAcc t).ports = s.ports := rfl

@[simp] theorem State.setAcc_img (s : State) (t : AluResult) : (s.setAcc t).img = s.img := rfl

@[simp] theorem State.setAcc_config (s : State) (t : AluResult) : (s.setAcc t).config = s.config := rfl

@[simp] theorem State.setFlagsOnly_regs (s : State) (t : AluResult) : (s.setFlagsOnly t).regs = s.regs := rfl

@[simp] theorem State.setFlagsOnly_flags (s : State) (t : AluResult) : (s.setFlagsOnly t).flags = t.flags := rfl

@[simp] theorem State.setFlagsOnly_sp (s : State) (t : AluResult) : (s.setFlagsOnly t).sp = s.sp := rfl

@[simp] theorem State.setFlagsOnly_pc (s : State) (t : AluResult) : (s.setFlagsOnly t).pc = s.pc := rfl

@[simp] theorem State.setFlagsOnly_intr (s : State) (t : AluResult) : (s.setFlagsOnly t).intr = s.intr := rfl

@[simp] theorem State.setFlagsOnly_map (s : State) (t : AluResult) : (s.setFlagsOnly t).map = s.map := rfl

@[simp] theorem State.setFlagsOnly_seq (s : State) (t : AluResult) : (s.setFlagsOnly t).seq = s.seq := rfl

@[simp] theorem State.setFlagsOnly_raster (s : State) (t : AluResult) : (s.setFlagsOnly t).raster = s.raster := rfl

@[simp] theorem State.setFlagsOnly_counts (s : State) (t : AluResult) : (s.setFlagsOnly t).counts = s.counts := rfl

@[simp] theorem State.setFlagsOnly_ports (s : State) (t : AluResult) : (s.setFlagsOnly t).ports = s.ports := rfl

@[simp] theorem State.setFlagsOnly_img (s : State) (t : AluResult) : (s.setFlagsOnly t).img = s.img := rfl

@[simp] theorem State.setFlagsOnly_config (s : State) (t : AluResult) : (s.setFlagsOnly t).config = s.config := rfl

@[simp] theorem State.setCy_regs (s : State) (cy : Bool) : (s.setCy cy).regs = s.regs := rfl

@[simp] theorem State.setCy_flags (s : State) (cy : Bool) : (s.setCy cy).flags = { s.flags with cy := cy } := rfl

@[simp] theorem State.setCy_sp (s : State) (cy : Bool) : (s.setCy cy).sp = s.sp := rfl

@[simp] theorem State.setCy_pc (s : State) (cy : Bool) : (s.setCy cy).pc = s.pc := rfl

@[simp] theorem State.setCy_intr (s : State) (cy : Bool) : (s.setCy cy).intr = s.intr := rfl

@[simp] theorem State.setCy_map (s : State) (cy : Bool) : (s.setCy cy).map = s.map := rfl

@[simp] theorem State.setCy_seq (s : State) (cy : Bool) : (s.setCy cy).seq = s.seq := rfl

@[simp] theorem State.setCy_raster (s : State) (cy : Bool) : (s.setCy cy).raster = s.raster := rfl

@[simp] theorem State.setCy_counts (s : State) (cy : Bool) : (s.setCy cy).counts = s.counts := rfl

@[simp] theorem State.setCy_ports (s : State) (cy : Bool) : (s.setCy cy).ports = s.ports := rfl

@[simp] theorem State.setCy_img (s : State) (cy : Bool) : (s.setCy cy).img = s.img := rfl

@[simp] theorem State.setCy_config (s : State) (cy : Bool) : (s.setCy cy).config = s.config := rfl

@[simp] theorem State.setPsw_regs (s : State) (v : Word) : (s.setPsw v).regs = { s.regs with a := v.extractLsb' 8 8 } := rfl

@[simp] theorem State.setPsw_flags (s : State) (v : Word) : (s.setPsw v).flags = Flags.ofByte (v.extractLsb' 0 8) := rfl

@[simp] theorem State.setPsw_sp (s : State) (v : Word) : (s.setPsw v).sp = s.sp := rfl

@[simp] theorem State.setPsw_pc (s : State) (v : Word) : (s.setPsw v).pc = s.pc := rfl

@[simp] theorem State.setPsw_intr (s : State) (v : Word) : (s.setPsw v).intr = s.intr := rfl

@[simp] theorem State.setPsw_map (s : State) (v : Word) : (s.setPsw v).map = s.map := rfl

@[simp] theorem State.setPsw_seq (s : State) (v : Word) : (s.setPsw v).seq = s.seq := rfl

@[simp] theorem State.setPsw_raster (s : State) (v : Word) : (s.setPsw v).raster = s.raster := rfl

@[simp] theorem State.setPsw_counts (s : State) (v : Word) : (s.setPsw v).counts = s.counts := rfl

@[simp] theorem State.setPsw_ports (s : State) (v : Word) : (s.setPsw v).ports = s.ports := rfl

@[simp] theorem State.setPsw_img (s : State) (v : Word) : (s.setPsw v).img = s.img := rfl

@[simp] theorem State.setPsw_config (s : State) (v : Word) : (s.setPsw v).config = s.config := rfl

@[simp] theorem State.setStackPair_sp (s : State) (p : StackPair) (v : Word) : (s.setStackPair p v).sp = s.sp := by cases p <;> rfl

@[simp] theorem State.setStackPair_pc (s : State) (p : StackPair) (v : Word) : (s.setStackPair p v).pc = s.pc := by cases p <;> rfl

@[simp] theorem State.setStackPair_intr (s : State) (p : StackPair) (v : Word) : (s.setStackPair p v).intr = s.intr := by cases p <;> rfl

@[simp] theorem State.setStackPair_map (s : State) (p : StackPair) (v : Word) : (s.setStackPair p v).map = s.map := by cases p <;> rfl

@[simp] theorem State.setStackPair_seq (s : State) (p : StackPair) (v : Word) : (s.setStackPair p v).seq = s.seq := by cases p <;> rfl

@[simp] theorem State.setStackPair_raster (s : State) (p : StackPair) (v : Word) : (s.setStackPair p v).raster = s.raster := by cases p <;> rfl

@[simp] theorem State.setStackPair_counts (s : State) (p : StackPair) (v : Word) : (s.setStackPair p v).counts = s.counts := by cases p <;> rfl

@[simp] theorem State.setStackPair_ports (s : State) (p : StackPair) (v : Word) : (s.setStackPair p v).ports = s.ports := by cases p <;> rfl

@[simp] theorem State.setStackPair_img (s : State) (p : StackPair) (v : Word) : (s.setStackPair p v).img = s.img := by cases p <;> rfl

@[simp] theorem State.setStackPair_config (s : State) (p : StackPair) (v : Word) : (s.setStackPair p v).config = s.config := by cases p <;> rfl

/-! ### The sequencer and the raster timer -/

@[simp] theorem State.latch_regs (s : State) (line : Bool) : (s.latch line).regs = s.regs := by unfold State.latch; split <;> rfl

@[simp] theorem State.latch_flags (s : State) (line : Bool) : (s.latch line).flags = s.flags := by unfold State.latch; split <;> rfl

@[simp] theorem State.latch_sp (s : State) (line : Bool) : (s.latch line).sp = s.sp := by unfold State.latch; split <;> rfl

@[simp] theorem State.latch_pc (s : State) (line : Bool) : (s.latch line).pc = s.pc := by unfold State.latch; split <;> rfl

@[simp] theorem State.latch_map (s : State) (line : Bool) : (s.latch line).map = s.map := by unfold State.latch; split <;> rfl

@[simp] theorem State.latch_seq (s : State) (line : Bool) : (s.latch line).seq = s.seq := by unfold State.latch; split <;> rfl

@[simp] theorem State.latch_raster (s : State) (line : Bool) : (s.latch line).raster = s.raster := by unfold State.latch; split <;> rfl

@[simp] theorem State.latch_counts (s : State) (line : Bool) : (s.latch line).counts = s.counts := by unfold State.latch; split <;> rfl

@[simp] theorem State.latch_ports (s : State) (line : Bool) : (s.latch line).ports = s.ports := by unfold State.latch; split <;> rfl

@[simp] theorem State.latch_img (s : State) (line : Bool) : (s.latch line).img = s.img := by unfold State.latch; split <;> rfl

@[simp] theorem State.latch_config (s : State) (line : Bool) : (s.latch line).config = s.config := by unfold State.latch; split <;> rfl

@[simp] theorem State.beginFetch_regs (s : State) : (s.beginFetch).regs = s.regs := rfl

@[simp] theorem State.beginFetch_flags (s : State) : (s.beginFetch).flags = s.flags := rfl

@[simp] theorem State.beginFetch_sp (s : State) : (s.beginFetch).sp = s.sp := rfl

@[simp] theorem State.beginFetch_pc (s : State) : (s.beginFetch).pc = s.fetchAddr := rfl

@[simp] theorem State.beginFetch_intr (s : State) : (s.beginFetch).intr = { s.intr with eip := false, hlta := false } := rfl

@[simp] theorem State.beginFetch_map (s : State) : (s.beginFetch).map = s.map := rfl

@[simp] theorem State.beginFetch_seq (s : State) : (s.beginFetch).seq = s.seq := rfl

@[simp] theorem State.beginFetch_raster (s : State) : (s.beginFetch).raster = s.raster := rfl

@[simp] theorem State.beginFetch_counts (s : State) : (s.beginFetch).counts = s.counts := rfl

@[simp] theorem State.beginFetch_ports (s : State) : (s.beginFetch).ports = s.ports := rfl

@[simp] theorem State.beginFetch_img (s : State) : (s.beginFetch).img = s.img := rfl

@[simp] theorem State.beginFetch_config (s : State) : (s.beginFetch).config = s.config := rfl

@[simp] theorem State.fetchOpcode_regs (s : State) : (s.fetchOpcode).regs = s.regs := rfl

@[simp] theorem State.fetchOpcode_flags (s : State) : (s.fetchOpcode).flags = s.flags := rfl

@[simp] theorem State.fetchOpcode_sp (s : State) : (s.fetchOpcode).sp = s.sp := rfl

@[simp] theorem State.fetchOpcode_pc (s : State) : (s.fetchOpcode).pc = s.pc + 1 := rfl

@[simp] theorem State.fetchOpcode_intr (s : State) : (s.fetchOpcode).intr = s.intr := rfl

@[simp] theorem State.fetchOpcode_map (s : State) : (s.fetchOpcode).map = s.map := rfl

@[simp] theorem State.fetchOpcode_seq (s : State) : (s.fetchOpcode).seq = { s.seq with ir := s.read s.pc.toNat .ram } := rfl

@[simp] theorem State.fetchOpcode_raster (s : State) : (s.fetchOpcode).raster = s.raster := rfl

@[simp] theorem State.fetchOpcode_counts (s : State) : (s.fetchOpcode).counts = s.counts.bump .run (s.translate s.pc.toNat .ram) := rfl

@[simp] theorem State.fetchOpcode_ports (s : State) : (s.fetchOpcode).ports = s.ports := rfl

@[simp] theorem State.fetchOpcode_img (s : State) : (s.fetchOpcode).img = s.img := rfl

@[simp] theorem State.fetchOpcode_config (s : State) : (s.fetchOpcode).config = s.config := rfl

@[simp] theorem State.setLength_regs (s : State) : (s.setLength).regs = s.regs := rfl

@[simp] theorem State.setLength_flags (s : State) : (s.setLength).flags = s.flags := rfl

@[simp] theorem State.setLength_sp (s : State) : (s.setLength).sp = s.sp := rfl

@[simp] theorem State.setLength_pc (s : State) : (s.setLength).pc = s.pc := rfl

@[simp] theorem State.setLength_intr (s : State) : (s.setLength).intr = s.intr := rfl

@[simp] theorem State.setLength_map (s : State) : (s.setLength).map = s.map := rfl

@[simp] theorem State.setLength_seq (s : State) : (s.setLength).seq = { s.seq with lenCur := instrCycles s.config s.flags s.seq.ir } := rfl

@[simp] theorem State.setLength_raster (s : State) : (s.setLength).raster = s.raster := rfl

@[simp] theorem State.setLength_counts (s : State) : (s.setLength).counts = s.counts := rfl

@[simp] theorem State.setLength_ports (s : State) : (s.setLength).ports = s.ports := rfl

@[simp] theorem State.setLength_img (s : State) : (s.setLength).img = s.img := rfl

@[simp] theorem State.setLength_config (s : State) : (s.setLength).config = s.config := rfl

@[simp] theorem State.endCycle_regs (s : State) : (s.endCycle).regs = s.regs := rfl

@[simp] theorem State.endCycle_flags (s : State) : (s.endCycle).flags = s.flags := rfl

@[simp] theorem State.endCycle_sp (s : State) : (s.endCycle).sp = s.sp := rfl

@[simp] theorem State.endCycle_pc (s : State) : (s.endCycle).pc = s.pc := rfl

@[simp] theorem State.endCycle_intr (s : State) : (s.endCycle).intr = s.intr := rfl

@[simp] theorem State.endCycle_map (s : State) : (s.endCycle).map = s.map := rfl

@[simp] theorem State.endCycle_seq (s : State) : (s.endCycle).seq = { s.seq with mc := (s.seq.mc + 1) % s.seq.lenCur, cc := s.seq.cc + ticksPerMc } := rfl

@[simp] theorem State.endCycle_raster (s : State) : (s.endCycle).raster = s.raster := rfl

@[simp] theorem State.endCycle_counts (s : State) : (s.endCycle).counts = s.counts := rfl

@[simp] theorem State.endCycle_ports (s : State) : (s.endCycle).ports = s.ports := rfl

@[simp] theorem State.endCycle_img (s : State) : (s.endCycle).img = s.img := rfl

@[simp] theorem State.endCycle_config (s : State) : (s.endCycle).config = s.config := rfl

@[simp] theorem State.rasterTick_regs (s : State) : (s.rasterTick).regs = s.regs := rfl

@[simp] theorem State.rasterTick_flags (s : State) : (s.rasterTick).flags = s.flags := rfl

@[simp] theorem State.rasterTick_sp (s : State) : (s.rasterTick).sp = s.sp := rfl

@[simp] theorem State.rasterTick_pc (s : State) : (s.rasterTick).pc = s.pc := rfl

@[simp] theorem State.rasterTick_intr (s : State) : (s.rasterTick).intr = s.intr := rfl

@[simp] theorem State.rasterTick_map (s : State) : (s.rasterTick).map = s.map := rfl

@[simp] theorem State.rasterTick_seq (s : State) : (s.rasterTick).seq = s.seq := rfl

@[simp] theorem State.rasterTick_raster (s : State) : (s.rasterTick).raster = s.raster.next s.config := rfl

@[simp] theorem State.rasterTick_counts (s : State) : (s.rasterTick).counts = s.counts := rfl

@[simp] theorem State.rasterTick_ports (s : State) : (s.rasterTick).ports = s.ports := rfl

@[simp] theorem State.rasterTick_img (s : State) : (s.rasterTick).img = s.img := rfl

@[simp] theorem State.rasterTick_config (s : State) : (s.rasterTick).config = s.config := rfl

end Sys2Proof.Machine
end

