-- ==== Sys2Proof/Laws/Ops.lean ====
section
/-! SUPPORT. One lemma per shared operation that says once everything it can do, for proofs to cite instead of unfolding:
translation, the memory primitives, the stack, registers and pairs, the fetch, and what no instruction writes. -/

namespace Sys2Proof.Machine

/-! ### Translation -/

theorem State.translate_congr {s t : State} (hm : t.map = s.map) (hc : t.config = s.config) (addr : Nat) (sp : Space) :
    t.translate addr sp = s.translate addr sp := by
  cases sp <;> simp [State.translate, hm, hc]

/-- A STACK offset is the 16-bit address, or that address in the stack bank. -/
theorem stackOffset_cases (m : Mapping) (a : Nat) :
    stackOffset m a = a ∨ stackOffset m a = a + m.stackBank * bankSize := by
  unfold stackOffset
  split <;> simp

/-- A RAM offset is the 16-bit address, or that address in the RAM bank. -/
theorem ramOffset_cases (c : Config) (m : Mapping) (a : Nat) :
    ramOffset c m a = a ∨ ramOffset c m a = a + m.ramBank * bankSize := by
  unfold ramOffset
  split_ifs <;> simp

/-- Two addresses that differ modulo 2^16 have different offsets in a 16-bit space. -/
theorem State.translate_ne (s : State) {a b : Nat} {sp : Space} (hsp : sp ≠ .global) (h : a % 0x10000 ≠ b % 0x10000) :
    s.translate a sp ≠ s.translate b sp := by
  have hbank : bankSize = 65536 := rfl
  cases sp with
  | ram =>
    simp only [State.translate]
    rcases ramOffset_cases s.config s.map (a % 0x10000) with ha | ha <;>
      rcases ramOffset_cases s.config s.map (b % 0x10000) with hb | hb <;>
      rw [ha, hb] <;> (try simp only [hbank]) <;> omega
  | stack =>
    simp only [State.translate]
    rcases stackOffset_cases s.map (a % 0x10000) with ha | ha <;>
      rcases stackOffset_cases s.map (b % 0x10000) with hb | hb <;>
      rw [ha, hb] <;> (try simp only [hbank]) <;> omega
  | global => exact absurd rfl hsp

/-! ### Bytes of the image -/

@[simp] theorem State.byteAt_write (s : State) (addr : Nat) (v : Byte) (sp : Space) (g : Nat) :
    (s.write addr v sp).byteAt g = if g = s.translate addr sp then v else s.byteAt g := by
  simp [State.byteAt, Sparse.lookup_write]

@[simp] theorem State.byteAt_memWrite (s : State) (addr : Word) (v : Byte) (sp : Space) (g : Nat) :
    (s.memWrite addr v sp).byteAt g = if g = s.translate addr.toNat sp then v else s.byteAt g := by
  simp [State.byteAt, Sparse.lookup_write]

/-- Push16: the low byte at SP - 2, the high byte at SP - 1, in STACK space, and no other byte. -/
theorem State.byteAt_push16 (s : State) (v : Word) (g : Nat) :
    (s.push16 v).byteAt g =
      if g = s.translate (s.sp - 1 - 1).toNat .stack then v.extractLsb' 0 8
      else if g = s.translate (s.sp - 1).toNat .stack then v.extractLsb' 8 8
      else s.byteAt g := by
  simp [State.byteAt, Sparse.lookup_write]

theorem State.byteAt_of_img {s t : State} (h : t.img = s.img) (g : Nat) : t.byteAt g = s.byteAt g := by
  simp [State.byteAt, h]

/-- A read sees the image through the mapping and the parameters only. -/
theorem State.read_congr {s t : State} (hi : t.img = s.img) (hm : t.map = s.map) (hc : t.config = s.config) (addr : Nat)
    (sp : Space) : t.read addr sp = s.read addr sp := by
  simp [State.read, State.byteAt, hi, State.translate_congr hm hc]

/-! ### The canonical form of memory -/

/-- Every memory operation keeps the canonical form: a write of one byte, by whichever space. -/
theorem State.wf_write {s : State} (h : Memory.wf s.img) (addr : Nat) (v : Byte) (sp : Space) :
    Memory.wf (s.write addr v sp).img := Sparse.wf_write _ _ _ _ h

theorem State.wf_memWrite {s : State} (h : Memory.wf s.img) (addr : Word) (v : Byte) (sp : Space) :
    Memory.wf (s.memWrite addr v sp).img := Sparse.wf_write _ _ _ _ h

theorem State.wf_push16 {s : State} (h : Memory.wf s.img) (v : Word) : Memory.wf (s.push16 v).img :=
  Sparse.wf_write _ _ _ _ (Sparse.wf_write _ _ _ _ h)

theorem State.wf_placeBytes {s : State} (h : Memory.wf s.img) (bytes : List Byte) : Memory.wf (s.placeBytes bytes).img :=
  Sparse.wf_write _ _ _ _ (Sparse.wf_write _ _ _ _ (Sparse.wf_write _ _ _ _ h))

theorem wf_loadBytes (bytes : List Byte) {m : Memory} (h : Memory.wf m) (offset : Nat) :
    Memory.wf (loadBytes m offset bytes) := by
  induction bytes generalizing m offset with
  | nil => exact h
  | cons v rest ih => exact ih (Sparse.wf_write _ _ _ _ h) (offset + 1)

/-- The memory after reset is in canonical form. -/
theorem State.wf_reset : Memory.wf State.reset.img := by decide

/-! ### Registers and pairs -/

theorem Regs.set_self (s : State) (r : Reg) (v : Byte) : (s.setReg r v).reg r = v := by cases r <;> rfl

theorem Regs.set_ne (s : State) {r q : Reg} (v : Byte) (h : q ≠ r) : (s.setReg r v).reg q = s.reg q := by
  cases r <;> cases q <;> first | rfl | exact absurd rfl h

theorem append_extract (v : Word) : v.extractLsb' 8 8 ++ v.extractLsb' 0 8 = v := by
  apply BitVec.eq_of_toNat_eq
  have := v.isLt
  simp only [BitVec.toNat_append, BitVec.extractLsb'_toNat, Nat.shiftRight_eq_div_pow, Nat.shiftLeft_eq]
  rw [Nat.mul_comm, ← Nat.two_pow_add_eq_or_of_lt (by omega)]
  omega

theorem extract_hi (h l : Byte) : (h ++ l).extractLsb' 8 8 = h := by
  apply BitVec.eq_of_toNat_eq
  have := h.isLt
  have := l.isLt
  simp only [BitVec.toNat_append, BitVec.extractLsb'_toNat, Nat.shiftRight_eq_div_pow, Nat.shiftLeft_eq]
  rw [Nat.mul_comm, ← Nat.two_pow_add_eq_or_of_lt l.isLt]
  omega

theorem extract_lo (h l : Byte) : (h ++ l).extractLsb' 0 8 = l := by
  apply BitVec.eq_of_toNat_eq
  have := l.isLt
  simp only [BitVec.toNat_append, BitVec.extractLsb'_toNat, Nat.shiftRight_eq_div_pow, Nat.shiftLeft_eq]
  rw [Nat.mul_comm, ← Nat.two_pow_add_eq_or_of_lt l.isLt]
  omega

@[simp] theorem State.pair_setPair (s : State) (p : RegPair) (v : Word) : (s.setPair p v).pair p = v := by
  cases p <;> simp [State.setPair, State.pair, State.bc, State.de, State.hl, append_extract]

@[simp] theorem State.hl_setHl (s : State) (v : Word) : (s.setHl v).hl = v := by simp [State.hl, append_extract]

@[simp] theorem State.afterOperand_reg (s : State) (r : Reg) : s.afterOperand (.reg r) = s := rfl

@[simp] theorem State.writeOperand_reg (s : State) (r : Reg) (v : Byte) : s.writeOperand (.reg r) v = s.setReg r v := rfl

@[simp] theorem State.writeOperand_m (s : State) (v : Byte) : s.writeOperand .m v = s.memWrite s.hl v .ram := rfl

theorem State.afterOperand_m (s : State) : s.afterOperand .m = s.readM.2 := rfl

/-! ### The fetch -/

/-- R51: an instruction has 1, 2 or 3 bytes. -/
theorem lenOf_cases : ∀ op : Byte, lenOf op = 1 ∨ lenOf op = 2 ∨ lenOf op = 3 := by decide

/-- Fetching an instruction: IR is the opcode at PC, PC is `LEN[op]` further, and only PC, IR and the RUN counters move. -/
theorem State.fetchInstr_spec (s : State) :
    s.fetchInstr.1 = instrOf (s.read s.pc.toNat .ram)
        (if lenOf (s.read s.pc.toNat .ram) = 1 then 0#8 else s.read (s.pc + 1).toNat .ram)
        (if lenOf (s.read s.pc.toNat .ram) = 1 ∨ lenOf (s.read s.pc.toNat .ram) = 2 then 0#8
          else s.read (s.pc + 1 + 1).toNat .ram) ∧
    s.fetchInstr.2.seq = { s.seq with ir := s.read s.pc.toNat .ram } ∧
    s.fetchInstr.2.counts.read = s.counts.read ∧ s.fetchInstr.2.counts.write = s.counts.write ∧
    s.fetchInstr.2.regs = s.regs ∧ s.fetchInstr.2.flags = s.flags ∧ s.fetchInstr.2.sp = s.sp ∧
    s.fetchInstr.2.intr = s.intr ∧ s.fetchInstr.2.map = s.map ∧ s.fetchInstr.2.raster = s.raster ∧
    s.fetchInstr.2.ports = s.ports ∧ s.fetchInstr.2.img = s.img ∧ s.fetchInstr.2.config = s.config := by
  have hr : ∀ a, s.fetchOpcode.read a .ram = s.read a .ram := fun a =>
    State.read_congr (by simp) (by simp) (by simp) a _
  have hr2 : ∀ a, s.fetchOpcode.fetch.2.read a .ram = s.read a .ram := fun a =>
    State.read_congr (by simp) (by simp) (by simp) a _
  unfold State.fetchInstr
  simp only [State.fetchOpcode_seq]
  rcases lenOf_cases (s.read s.pc.toNat .ram) with h | h | h <;> simp [h, hr, hr2, Counters.bump]

/-- Fetching an instruction moves PC by its length. -/
theorem State.fetchInstr_pc (s : State) :
    s.fetchInstr.2.pc = s.pc + BitVec.ofNat 16 (lenOf (s.read s.pc.toNat .ram)) := by
  unfold State.fetchInstr
  simp only [State.fetchOpcode_seq]
  rcases lenOf_cases (s.read s.pc.toNat .ram) with h | h | h <;> simp [h] <;> bv_omega

/-! ### What no instruction writes (R22, R23, R37, R178) -/

/-- Whatever an instruction answers, it answers a next state, in which the mapping, the sequencer, the raster timer and
the parameters are as they were. -/
theorem exec_keeps (i : Instr) (s : State) :
    ∃ t, exec i s = .next t ∧ t.map = s.map ∧ t.seq = s.seq ∧ t.raster = s.raster ∧ t.config = s.config := by
  cases i <;> refine ⟨_, rfl, ?_⟩ <;>
    simp [accOp, stepOp, rotated, jumpIf, callIf, returnIf, jumpTo, callTo] <;> split <;> simp

end Sys2Proof.Machine
end

