-- ==== Sys2Proof/Laws/PerInstr.lean ====
section
/-! SUPPORT. Statements about every instruction as syntax, one lemma per constructor of Instr. -/

namespace Sys2Proof.Laws.EncodedLength

/-- R51: a well-formed instruction has exactly the `LEN[op]` bytes of its opcode. -/
def Statement (i : Instr) : Prop := i.wellFormed = true → (encode i).length = lenOf i.opcode

theorem movRR (dst src : Reg) : Statement (.movRR dst src) := by intro _; cases dst <;> cases src <;> rfl

theorem movRM (dst : Reg) : Statement (.movRM dst) := by intro _; cases dst <;> rfl

theorem movMR (src : Reg) : Statement (.movMR src) := by intro _; cases src <;> rfl

theorem mviR (dst : Reg) (imm : Byte) : Statement (.mviR dst imm) := by
  intro _; change 2 = lenOf _; simp only [Instr.opcode]; cases dst <;> decide

theorem mviM (imm : Byte) : Statement (.mviM imm) := fun _ => by change 2 = lenOf _; simp only [Instr.opcode]; decide

theorem lxi (dst : RegPair) (imm : Word) : Statement (.lxi dst imm) := by
  intro _; change 3 = lenOf _; simp only [Instr.opcode]; cases dst <;> decide

theorem lda (addr : Word) : Statement (.lda addr) := fun _ => by change 3 = lenOf _; simp only [Instr.opcode]; decide

theorem sta (addr : Word) : Statement (.sta addr) := fun _ => by change 3 = lenOf _; simp only [Instr.opcode]; decide

theorem lhld (addr : Word) : Statement (.lhld addr) := fun _ => by change 3 = lenOf _; simp only [Instr.opcode]; decide

theorem shld (addr : Word) : Statement (.shld addr) := fun _ => by change 3 = lenOf _; simp only [Instr.opcode]; decide

theorem ldax (pair : RegPair) : Statement (.ldax pair) := by intro h; cases pair <;> first | rfl | cases h

theorem stax (pair : RegPair) : Statement (.stax pair) := by intro h; cases pair <;> first | rfl | cases h

theorem xchg : Statement .xchg := fun _ => rfl

theorem add (src : Operand) : Statement (.add src) := by
  intro _; cases src with
  | reg r => cases r <;> rfl
  | m => rfl

theorem adc (src : Operand) : Statement (.adc src) := by
  intro _; cases src with
  | reg r => cases r <;> rfl
  | m => rfl

theorem sub (src : Operand) : Statement (.sub src) := by
  intro _; cases src with
  | reg r => cases r <;> rfl
  | m => rfl

theorem sbb (src : Operand) : Statement (.sbb src) := by
  intro _; cases src with
  | reg r => cases r <;> rfl
  | m => rfl

theorem adi (imm : Byte) : Statement (.adi imm) := fun _ => by change 2 = lenOf _; simp only [Instr.opcode]; decide

theorem aci (imm : Byte) : Statement (.aci imm) := fun _ => by change 2 = lenOf _; simp only [Instr.opcode]; decide

theorem sui (imm : Byte) : Statement (.sui imm) := fun _ => by change 2 = lenOf _; simp only [Instr.opcode]; decide

theorem sbi (imm : Byte) : Statement (.sbi imm) := fun _ => by change 2 = lenOf _; simp only [Instr.opcode]; decide

theorem inr (dst : Operand) : Statement (.inr dst) := by
  intro _; cases dst with
  | reg r => cases r <;> rfl
  | m => rfl

theorem dcr (dst : Operand) : Statement (.dcr dst) := by
  intro _; cases dst with
  | reg r => cases r <;> rfl
  | m => rfl

theorem inx (pair : RegPair) : Statement (.inx pair) := by intro _; cases pair <;> rfl

theorem dcx (pair : RegPair) : Statement (.dcx pair) := by intro _; cases pair <;> rfl

theorem dad (pair : RegPair) : Statement (.dad pair) := by intro _; cases pair <;> rfl

theorem daa : Statement .daa := fun _ => rfl

theorem ana (src : Operand) : Statement (.ana src) := by
  intro _; cases src with
  | reg r => cases r <;> rfl
  | m => rfl

theorem xra (src : Operand) : Statement (.xra src) := by
  intro _; cases src with
  | reg r => cases r <;> rfl
  | m => rfl

theorem ora (src : Operand) : Statement (.ora src) := by
  intro _; cases src with
  | reg r => cases r <;> rfl
  | m => rfl

theorem cmp (src : Operand) : Statement (.cmp src) := by
  intro _; cases src with
  | reg r => cases r <;> rfl
  | m => rfl

theorem ani (imm : Byte) : Statement (.ani imm) := fun _ => by change 2 = lenOf _; simp only [Instr.opcode]; decide

theorem xri (imm : Byte) : Statement (.xri imm) := fun _ => by change 2 = lenOf _; simp only [Instr.opcode]; decide

theorem ori (imm : Byte) : Statement (.ori imm) := fun _ => by change 2 = lenOf _; simp only [Instr.opcode]; decide

theorem cpi (imm : Byte) : Statement (.cpi imm) := fun _ => by change 2 = lenOf _; simp only [Instr.opcode]; decide

theorem rlc : Statement .rlc := fun _ => rfl

theorem rrc : Statement .rrc := fun _ => rfl

theorem ral : Statement .ral := fun _ => rfl

theorem rar : Statement .rar := fun _ => rfl

theorem cma : Statement .cma := fun _ => rfl

theorem stc : Statement .stc := fun _ => rfl

theorem cmc : Statement .cmc := fun _ => rfl

theorem jmp (target : Word) : Statement (.jmp target) := fun _ => by change 3 = lenOf _; simp only [Instr.opcode]; decide

theorem jmpU (target : Word) : Statement (.jmpU target) := fun _ => by change 3 = lenOf _; simp only [Instr.opcode]; decide

theorem jnz (target : Word) : Statement (.jnz target) := fun _ => by change 3 = lenOf _; simp only [Instr.opcode]; decide

theorem jz (target : Word) : Statement (.jz target) := fun _ => by change 3 = lenOf _; simp only [Instr.opcode]; decide

theorem jnc (target : Word) : Statement (.jnc target) := fun _ => by change 3 = lenOf _; simp only [Instr.opcode]; decide

theorem jc (target : Word) : Statement (.jc target) := fun _ => by change 3 = lenOf _; simp only [Instr.opcode]; decide

theorem jpo (target : Word) : Statement (.jpo target) := fun _ => by change 3 = lenOf _; simp only [Instr.opcode]; decide

theorem jpe (target : Word) : Statement (.jpe target) := fun _ => by change 3 = lenOf _; simp only [Instr.opcode]; decide

theorem jp (target : Word) : Statement (.jp target) := fun _ => by change 3 = lenOf _; simp only [Instr.opcode]; decide

theorem jm (target : Word) : Statement (.jm target) := fun _ => by change 3 = lenOf _; simp only [Instr.opcode]; decide

theorem pchl : Statement .pchl := fun _ => rfl

theorem call (target : Word) : Statement (.call target) := fun _ => by change 3 = lenOf _; simp only [Instr.opcode]; decide

theorem callU (dup : BitVec 2) (target : Word) : Statement (.callU dup target) := by
  intro h; clear h; change 3 = lenOf _; simp only [Instr.opcode]; revert dup; decide

theorem cnz (target : Word) : Statement (.cnz target) := fun _ => by change 3 = lenOf _; simp only [Instr.opcode]; decide

theorem cz (target : Word) : Statement (.cz target) := fun _ => by change 3 = lenOf _; simp only [Instr.opcode]; decide

theorem cnc (target : Word) : Statement (.cnc target) := fun _ => by change 3 = lenOf _; simp only [Instr.opcode]; decide

theorem cc (target : Word) : Statement (.cc target) := fun _ => by change 3 = lenOf _; simp only [Instr.opcode]; decide

theorem cpo (target : Word) : Statement (.cpo target) := fun _ => by change 3 = lenOf _; simp only [Instr.opcode]; decide

theorem cpe (target : Word) : Statement (.cpe target) := fun _ => by change 3 = lenOf _; simp only [Instr.opcode]; decide

theorem cp (target : Word) : Statement (.cp target) := fun _ => by change 3 = lenOf _; simp only [Instr.opcode]; decide

theorem cm (target : Word) : Statement (.cm target) := fun _ => by change 3 = lenOf _; simp only [Instr.opcode]; decide

theorem ret : Statement .ret := fun _ => rfl

theorem retU : Statement .retU := fun _ => rfl

theorem rnz : Statement .rnz := fun _ => rfl

theorem rz : Statement .rz := fun _ => rfl

theorem rnc : Statement .rnc := fun _ => rfl

theorem rc : Statement .rc := fun _ => rfl

theorem rpo : Statement .rpo := fun _ => rfl

theorem rpe : Statement .rpe := fun _ => rfl

theorem rp : Statement .rp := fun _ => rfl

theorem rm : Statement .rm := fun _ => rfl

theorem rst (n : BitVec 3) : Statement (.rst n) := by intro _; revert n; decide

theorem push (pair : StackPair) : Statement (.push pair) := by intro _; cases pair <;> rfl

theorem pop (pair : StackPair) : Statement (.pop pair) := by intro _; cases pair <;> rfl

theorem xthl : Statement .xthl := fun _ => rfl

theorem sphl : Statement .sphl := fun _ => rfl

theorem inp (port : Byte) : Statement (.inp port) := fun _ => by change 2 = lenOf _; simp only [Instr.opcode]; decide

theorem out (port : Byte) : Statement (.out port) := fun _ => by change 2 = lenOf _; simp only [Instr.opcode]; decide

theorem ei : Statement .ei := fun _ => rfl

theorem di : Statement .di := fun _ => rfl

theorem hlt : Statement .hlt := fun _ => rfl

theorem nop : Statement .nop := fun _ => rfl

theorem nopU (dup : BitVec 3) : Statement (.nopU dup) := by intro _; revert dup; decide

end Sys2Proof.Laws.EncodedLength
end

