-- ==== Sys2Proof/Tests/Slice0.lean ====
section
/-! SUPPORT. Tests: what WellFormed refuses, decoding of words written out from the spec's encodings, one step of each
instruction on the worked example of its rule, the boundaries of the translation windows, and a witness for every
obligation that has hypotheses. Expected results are the spec's own examples and tables, cited at each test. -/

namespace Sys2Proof.Tests

open Sys2Proof.Machine

/-! ### Helpers -/

/-- The default parameters with the two OPEN ones named: two extension banks and the sentinel 0xA5. -/
def config2 : Config := { Config.default with numExtBanks := 2, portDevice := .stub 0xA5#8 }

/-- All registers 0. -/
def r0 : Regs := ⟨0, 0, 0, 0, 0, 0, 0⟩

/-- All flags 0. -/
def f0 : Flags := ⟨false, false, false, false, false⟩

/-- These bytes at 0x0100, PC there, SP = 0x3000. -/
def cpu (bytes : List Byte) (r : Regs := r0) (f : Flags := f0) : State :=
  { State.resetWith config2 with pc := 0x0100#16, sp := 0x3000#16, regs := r, flags := f, img := loadBytes [] 0x0100 bytes }

/-- A byte put into the main bank. -/
def poke (s : State) (offset : Nat) (v : Byte) : State := s.write offset v .global

/-- One step answers a next state with this property. -/
def after (s : State) (p : State → Bool) : Bool :=
  match step s with
  | .next t => p t
  | .fault _ => false
  | .refused _ => false

/-- One processor step with this request line answers a next state with this property. -/
def afterLine (line : Bool) (s : State) (p : State → Bool) : Bool :=
  match procStep line s with
  | .next t => p t
  | .fault _ => false
  | .refused _ => false

/-- A decoded instruction is this one, with no byte left. -/
def reads (bytes : List Byte) (i : Instr) : Bool := decide (decode bytes = .ok i [])

/-! ### Well-formedness: an ill-formed term for each check (R87, R88, R129, R146) -/

theorem test_wellFormed_ldax : (Instr.ldax .hl).wellFormed = false ∧ (Instr.ldax .sp).wellFormed = false := by decide

theorem test_wellFormed_stax : (Instr.stax .hl).wellFormed = false ∧ (Instr.stax .sp).wellFormed = false := by decide

theorem test_wellFormed_callU : (Instr.callU 0#2 0x0200#16).wellFormed = false := by decide

theorem test_wellFormed_nopU : (Instr.nopU 0#3).wellFormed = false := by decide

theorem test_wellFormed_accepts : (Instr.ldax .bc).wellFormed = true ∧ (Instr.stax .de).wellFormed = true ∧
    (Instr.callU 3#2 0x0200#16).wellFormed = true ∧ (Instr.nopU 7#3).wellFormed = true := by decide

/-! ### Decoding: words from the encodings of the rules, every constructor once -/

/-- 41_data_transfer: `01 ddd sss`, `00 ddd 110`, `00 pp 0001`, `00 pp 1010`, `00 pp 0010` and the single opcodes. -/
theorem test_decode_data_transfer :
    reads [0b01000001#8] (.movRR .b .c) ∧ reads [0b01111110#8] (.movRM .a) ∧ reads [0b01110000#8] (.movMR .b) ∧
    reads [0b00000110#8, 0x3C#8] (.mviR .b 0x3C#8) ∧ reads [0b00110110#8, 0xAA#8] (.mviM 0xAA#8) ∧
    reads [0b00100001#8, 0x34#8, 0x12#8] (.lxi .hl 0x1234#16) ∧ reads [0x3A#8, 0x00#8, 0x30#8] (.lda 0x3000#16) ∧
    reads [0x32#8, 0x00#8, 0x30#8] (.sta 0x3000#16) ∧ reads [0x2A#8, 0x00#8, 0x40#8] (.lhld 0x4000#16) ∧
    reads [0x22#8, 0x00#8, 0x40#8] (.shld 0x4000#16) ∧ reads [0b00011010#8] (.ldax .de) ∧
    reads [0b00000010#8] (.stax .bc) ∧ reads [0xEB#8] .xchg := by decide

/-- 42_arithmetic: `10 aaa sss`, `00 ddd 100`, `00 ddd 101`, `00 pp 0011`, `00 pp 1011`, `00 pp 1001`. -/
theorem test_decode_arithmetic :
    reads [0b10000000#8] (.add (.reg .b)) ∧ reads [0b10001110#8] (.adc .m) ∧ reads [0b10010111#8] (.sub (.reg .a)) ∧
    reads [0b10011101#8] (.sbb (.reg .l)) ∧ reads [0xC6#8, 0xC6#8] (.adi 0xC6#8) ∧ reads [0xCE#8, 0x00#8] (.aci 0#8) ∧
    reads [0xD6#8, 0x07#8] (.sui 7#8) ∧ reads [0xDE#8, 0x00#8] (.sbi 0#8) ∧ reads [0b00000100#8] (.inr (.reg .b)) ∧
    reads [0b00110101#8] (.dcr .m) ∧ reads [0b00110011#8] (.inx .sp) ∧ reads [0b00001011#8] (.dcx .bc) ∧
    reads [0b00011001#8] (.dad .de) ∧ reads [0x27#8] .daa := by decide

/-- 43_logical: `10 aaa sss` and the single opcodes. -/
theorem test_decode_logical :
    reads [0b10100001#8] (.ana (.reg .c)) ∧ reads [0b10101000#8] (.xra (.reg .b)) ∧ reads [0b10110110#8] (.ora .m) ∧
    reads [0b10111011#8] (.cmp (.reg .e)) ∧ reads [0xE6#8, 0x07#8] (.ani 7#8) ∧ reads [0xEE#8, 0xAA#8] (.xri 0xAA#8) ∧
    reads [0xF6#8, 0x00#8] (.ori 0#8) ∧ reads [0xFE#8, 0x05#8] (.cpi 5#8) ∧ reads [0x07#8] .rlc ∧ reads [0x0F#8] .rrc ∧
    reads [0x17#8] .ral ∧ reads [0x1F#8] .rar ∧ reads [0x2F#8] .cma ∧ reads [0x37#8] .stc ∧ reads [0x3F#8] .cmc := by
  decide

/-- 44_branch R124 to R127: `11 ccc 010` with the target low byte first. -/
theorem test_decode_jumps :
    reads [0xC3#8, 0x00#8, 0x02#8] (.jmp 0x0200#16) ∧ reads [0xCB#8, 0x00#8, 0x02#8] (.jmpU 0x0200#16) ∧
    reads [0b11000010#8, 0x34#8, 0x12#8] (.jnz 0x1234#16) ∧ reads [0b11001010#8, 0x34#8, 0x12#8] (.jz 0x1234#16) ∧
    reads [0b11010010#8, 0x34#8, 0x12#8] (.jnc 0x1234#16) ∧ reads [0b11011010#8, 0x34#8, 0x12#8] (.jc 0x1234#16) ∧
    reads [0b11100010#8, 0x34#8, 0x12#8] (.jpo 0x1234#16) ∧ reads [0b11101010#8, 0x34#8, 0x12#8] (.jpe 0x1234#16) ∧
    reads [0b11110010#8, 0x34#8, 0x12#8] (.jp 0x1234#16) ∧ reads [0b11111010#8, 0x34#8, 0x12#8] (.jm 0x1234#16) ∧
    reads [0xE9#8] .pchl := by decide

/-- 44_branch R128 to R130: `11 ccc 100` and the CALL opcodes. -/
theorem test_decode_calls :
    reads [0xCD#8, 0x00#8, 0x02#8] (.call 0x0200#16) ∧ reads [0xDD#8, 0x00#8, 0x02#8] (.callU 1#2 0x0200#16) ∧
    reads [0xED#8, 0x00#8, 0x02#8] (.callU 2#2 0x0200#16) ∧ reads [0xFD#8, 0x00#8, 0x02#8] (.callU 3#2 0x0200#16) ∧
    reads [0b11000100#8, 0x34#8, 0x12#8] (.cnz 0x1234#16) ∧ reads [0b11001100#8, 0x34#8, 0x12#8] (.cz 0x1234#16) ∧
    reads [0b11010100#8, 0x34#8, 0x12#8] (.cnc 0x1234#16) ∧ reads [0b11011100#8, 0x34#8, 0x12#8] (.cc 0x1234#16) ∧
    reads [0b11100100#8, 0x34#8, 0x12#8] (.cpo 0x1234#16) ∧ reads [0b11101100#8, 0x34#8, 0x12#8] (.cpe 0x1234#16) ∧
    reads [0b11110100#8, 0x34#8, 0x12#8] (.cp 0x1234#16) ∧ reads [0b11111100#8, 0x34#8, 0x12#8] (.cm 0x1234#16) := by
  decide

/-- 44_branch R131 to R134: `11 ccc 000`, `11 nnn 111` and the RET opcodes. -/
theorem test_decode_returns :
    reads [0xC9#8] .ret ∧ reads [0xD9#8] .retU ∧ reads [0b11000000#8] .rnz ∧ reads [0b11001000#8] .rz ∧
    reads [0b11010000#8] .rnc ∧ reads [0b11011000#8] .rc ∧ reads [0b11100000#8] .rpo ∧ reads [0b11101000#8] .rpe ∧
    reads [0b11110000#8] .rp ∧ reads [0b11111000#8] .rm ∧ reads [0b11011111#8] (.rst 3#3) := by decide

/-- 45_stack_io_control: `11 pp 0101`, `11 pp 0001`, `00 yyy 000` and the single opcodes. -/
theorem test_decode_stack_io_control :
    reads [0b11000101#8] (.push .bc) ∧ reads [0b11110101#8] (.push .psw) ∧ reads [0b11100001#8] (.pop .hl) ∧
    reads [0xE3#8] .xthl ∧ reads [0xF9#8] .sphl ∧ reads [0xDB#8, 0x01#8] (.inp 1#8) ∧
    reads [0xD3#8, 0x10#8] (.out 0x10#8) ∧ reads [0xFB#8] .ei ∧ reads [0xF3#8] .di ∧ reads [0x76#8] .hlt ∧
    reads [0x00#8] .nop ∧ reads [0b00100000#8] (.nopU 4#3) := by decide

/-- R53, R54: every register code, every pair code. -/
theorem test_decode_operand_codes :
    (List.range 8).map (fun n => operandOf (BitVec.ofNat 3 n)) =
      [.reg .b, .reg .c, .reg .d, .reg .e, .reg .h, .reg .l, .m, .reg .a] ∧
    (List.range 4).map (fun n => regPairOf (BitVec.ofNat 2 n)) = [.bc, .de, .hl, .sp] ∧
    (List.range 4).map (fun n => stackPairOf (BitVec.ofNat 2 n)) = [.bc, .de, .hl, .psw] ∧
    (List.range 8).map (fun n => condOf (BitVec.ofNat 3 n)) = [.nz, .z, .nc, .c, .po, .pe, .p, .m] := by decide

/-- R51: a byte string that ends before its instruction does is refused by name. -/
theorem test_decode_truncated : decode [] = .error .noBytes ∧ decode [0xC3#8, 0x00#8] = .error (.truncated 0xC3#8) ∧
    decode [0x3E#8] = .error (.truncated 0x3E#8) := by decide

/-- R57, R63: a table word's second byte is bits 15:8. -/
theorem test_decodeTableWord : decodeTableWord 8 0x41 = some (.movRR .b .c) ∧
    decodeTableWord 16 0x053E = some (.mviR .a 5#8) ∧ decodeTableWord 24 0x1234C3 = some (.jmp 0x1234#16) ∧
    decodeTableWord 8 0x21 = some (.lxi .hl 0#16) := by decide

/-- R60: every opcode decodes, alone in a table word. -/
theorem test_decodeTableWord_total : (List.range 256).all (fun n => (decodeTableWord 8 n).isSome) = true := by
  decide +kernel

/-- R66: the first step after reset runs the word placed: MVI A,0x05; then HLT, with HLTA set. -/
theorem test_withFetchWord : after (State.reset.withFetchWord 16 0x053E) (fun t => t.regs.a == 5#8 && t.pc == 2#16) ∧
    after (State.reset.withFetchWord 8 0x76) (fun t => t.intr.hlta && t.pc == 1#16) := by decide

/-! ### Data transfer: the examples of R77 to R89 -/

theorem test_mov_r_r : after (cpu [0x41#8] { r0 with c := 0x5A#8 }) (fun t =>
    t.regs == { r0 with b := 0x5A#8, c := 0x5A#8 } && t.pc == 0x0101#16 && t.seq.lenCur == 2) := by decide

theorem test_mov_r_m : after (poke (cpu [0x7E#8] { r0 with h := 0x20#8 }) 0x2000 0x77#8) (fun t =>
    t.regs.a == 0x77#8 && t.readCount 0x2000 == 1) := by decide

/-- R78: MOV H,M reads at the old HL. -/
theorem test_mov_h_m : after (poke (cpu [0x66#8] { r0 with h := 0x20#8 }) 0x2000 0x55#8) (fun t =>
    t.regs.h == 0x55#8) := by decide

theorem test_mov_m_r : after (cpu [0x70#8] { r0 with h := 0x20#8, b := 0x99#8 }) (fun t =>
    t.byteAt 0x2000 == 0x99#8 && t.writeCount 0x2000 == 1) := by decide

theorem test_mvi_r : after (cpu [0x06#8, 0x3C#8]) (fun t => t.regs.b == 0x3C#8 && t.pc == 0x0102#16) := by decide

/-- R80: an MVI at 0xFFFF takes its immediate from 0x0000 and leaves PC = 0x0001. -/
theorem test_mvi_wraps : after (poke (poke { cpu [] with pc := 0xFFFF#16 } 0xFFFF 0x06#8) 0 0x3C#8) (fun t =>
    t.regs.b == 0x3C#8 && t.pc == 0x0001#16) := by decide

theorem test_mvi_m : after (cpu [0x36#8, 0xAA#8] { r0 with h := 0x20#8 }) (fun t =>
    t.byteAt 0x2000 == 0xAA#8 && t.seq.lenCur == 3) := by decide

theorem test_lxi_h : after (cpu [0x21#8, 0x34#8, 0x12#8]) (fun t =>
    t.regs.h == 0x12#8 && t.regs.l == 0x34#8 && t.pc == 0x0103#16) := by decide

theorem test_lxi_sp : after (cpu [0x31#8, 0x34#8, 0x12#8]) (fun t => t.sp == 0x1234#16) := by decide

theorem test_lda : after (poke (cpu [0x3A#8, 0x00#8, 0x30#8]) 0x3000 0x42#8) (fun t =>
    t.regs.a == 0x42#8 && t.seq.lenCur == 4) := by decide

theorem test_sta : after (cpu [0x32#8, 0x00#8, 0x30#8] { r0 with a := 0x42#8 }) (fun t =>
    t.byteAt 0x3000 == 0x42#8) := by decide

theorem test_lhld : after (poke (poke (cpu [0x2A#8, 0x00#8, 0x40#8]) 0x4000 0xCD#8) 0x4001 0xAB#8) (fun t =>
    t.regs.l == 0xCD#8 && t.regs.h == 0xAB#8) := by decide

/-- R41, R85: LHLD 0x9FFF with only the 0xA000 window enabled reads L from the main bank and H from the extension bank. -/
theorem test_lhld_split : after (poke (poke { cpu [0x2A#8, 0xFF#8, 0x9F#8] with map := ⟨false, 0, 0x20#8, 1⟩ } 0x9FFF 0x11#8)
    0x1A000 0x22#8) (fun t => t.regs.l == 0x11#8 && t.regs.h == 0x22#8) := by decide

theorem test_shld : after (cpu [0x22#8, 0x00#8, 0x40#8] { r0 with h := 0xAB#8, l := 0xCD#8 }) (fun t =>
    t.byteAt 0x4000 == 0xCD#8 && t.byteAt 0x4001 == 0xAB#8) := by decide

/-- R86: SHLD 0xFFFF writes 0xFFFF and 0x0000. -/
theorem test_shld_wraps : after (cpu [0x22#8, 0xFF#8, 0xFF#8] { r0 with h := 0xAB#8, l := 0xCD#8 }) (fun t =>
    t.byteAt 0xFFFF == 0xCD#8 && t.byteAt 0 == 0xAB#8) := by decide

theorem test_ldax_d : after (poke (cpu [0x1A#8] { r0 with d := 0x30#8 }) 0x3000 0x42#8) (fun t =>
    t.regs.a == 0x42#8) := by decide

theorem test_stax_b : after (cpu [0x02#8] { r0 with b := 0x30#8, c := 0x01#8, a := 0x11#8 }) (fun t =>
    t.byteAt 0x3001 == 0x11#8) := by decide

theorem test_xchg : after (cpu [0xEB#8] { r0 with h := 0x12#8, l := 0x34#8, d := 0xAB#8, e := 0xCD#8 }) (fun t =>
    t.hl == 0xABCD#16 && t.de == 0x1234#16) := by decide

/-! ### Arithmetic: the examples of R93 to R106; flag bytes by R19 -/

theorem test_add : after (cpu [0x80#8] { r0 with a := 0x2E#8, b := 0x74#8 }) (fun t =>
    t.regs.a == 0xA2#8 && t.flags.toByte == 0x92#8) := by decide

theorem test_adc : after (cpu [0x89#8] { r0 with a := 0x3D#8, c := 0x42#8 } { f0 with cy := true }) (fun t =>
    t.regs.a == 0x80#8 && t.flags == ⟨true, false, true, false, false⟩) := by decide

theorem test_sub : after (cpu [0x97#8] { r0 with a := 0x3E#8 }) (fun t =>
    t.regs.a == 0x00#8 && t.flags.toByte == 0x56#8) := by decide

theorem test_sbb : after (cpu [0x9D#8] { r0 with a := 0x04#8, l := 0x02#8 } { f0 with cy := true }) (fun t =>
    t.regs.a == 0x01#8 && t.flags == ⟨false, false, true, false, false⟩) := by decide

/-- R96: A = 0, operand 0xFF, CY = 1 gives 0x00, Z = 1, CY = 1. -/
theorem test_sbb_borrow : after (cpu [0x98#8] { r0 with b := 0xFF#8 } { f0 with cy := true }) (fun t =>
    t.regs.a == 0x00#8 && t.flags.z && t.flags.cy) := by decide

theorem test_adi : after (cpu [0xC6#8, 0xC6#8] { r0 with a := 0x3A#8 }) (fun t =>
    t.regs.a == 0x00#8 && t.flags.toByte == 0x57#8) := by decide

theorem test_aci : after (cpu [0xCE#8, 0x00#8] { r0 with a := 0xFF#8 } { f0 with cy := true }) (fun t =>
    t.regs.a == 0x00#8 && t.flags.z && t.flags.cy && t.flags.ac) := by decide

theorem test_sui : after (cpu [0xD6#8, 0x07#8] { r0 with a := 0x05#8 }) (fun t =>
    t.regs.a == 0xFE#8 && t.flags == ⟨true, false, false, false, true⟩) := by decide

theorem test_sbi : after (cpu [0xDE#8, 0x00#8] r0 { f0 with cy := true }) (fun t =>
    t.regs.a == 0xFF#8 && t.flags.s && t.flags.p && t.flags.cy && !t.flags.ac) := by decide

theorem test_inr : after (cpu [0x04#8] { r0 with b := 0x0F#8 } { f0 with cy := true }) (fun t =>
    t.regs.b == 0x10#8 && t.flags == ⟨false, false, true, false, true⟩) := by decide

/-- R101: INR M: 0xFF gives 0x00 with Z = 1, AC = 1 and CY unchanged; one read and one write. -/
theorem test_inr_m : after (poke (cpu [0x34#8] { r0 with h := 0x20#8 }) 0x2000 0xFF#8) (fun t =>
    t.byteAt 0x2000 == 0x00#8 && t.flags.z && t.flags.ac && !t.flags.cy && t.readCount 0x2000 == 1 &&
    t.writeCount 0x2000 == 1 && t.seq.lenCur == 3) := by decide

theorem test_dcr : after (cpu [0x05#8] { r0 with b := 0x01#8 }) (fun t =>
    t.regs.b == 0x00#8 && t.flags == ⟨false, true, true, true, false⟩) := by decide

/-- R102: 0x10 gives 0x0F, AC = 0. -/
theorem test_dcr_half_borrow : after (cpu [0x05#8] { r0 with b := 0x10#8 }) (fun t =>
    t.regs.b == 0x0F#8 && !t.flags.ac) := by decide

theorem test_inx_sp : after { cpu [0x33#8] with sp := 0xFFFF#16 } (fun t => t.sp == 0x0000#16) := by decide

theorem test_dcx_b : after (cpu [0x0B#8]) (fun t => t.bc == 0xFFFF#16 && t.flags == f0) := by decide

theorem test_dad_b : after (cpu [0x09#8] { r0 with h := 0xA1#8, l := 0x7B#8, b := 0x33#8, c := 0x9F#8 }) (fun t =>
    t.hl == 0xD51A#16 && !t.flags.cy) := by decide

/-- R105: 0xFFFF + 0x0001 gives 0x0000, CY = 1, Z unchanged. -/
theorem test_dad_carry : after (cpu [0x19#8] { r0 with h := 0xFF#8, l := 0xFF#8, e := 0x01#8 }) (fun t =>
    t.hl == 0x0000#16 && t.flags == { f0 with cy := true }) := by decide

/-- R106: A = 0x9B, AC = 0, CY = 0 gives A = 0x01 with AC and CY (95_test_vectors, the DAA rows); 0x2B gives 0x31. -/
theorem test_daa : after (cpu [0x27#8] { r0 with a := 0x9B#8 }) (fun t => t.regs.a == 0x01#8 && t.flags.cy && t.flags.ac) ∧
    after (cpu [0x27#8] { r0 with a := 0x2B#8 }) (fun t => t.regs.a == 0x31#8 && !t.flags.cy) := by decide

/-! ### Logical: the examples of R108 to R122 -/

theorem test_ana : after (cpu [0xA1#8] { r0 with a := 0xFC#8, c := 0x0F#8 }) (fun t =>
    t.regs.a == 0x0C#8 && t.flags.toByte == 0x16#8) := by decide

/-- R108: operands 0x30 and 0x03 give 0x00 with AC = 0; 0x08 and 0x00 give 0x00 with AC = 1. -/
theorem test_ana_half_carry : after (cpu [0xA0#8] { r0 with a := 0x30#8, b := 0x03#8 }) (fun t => !t.flags.ac) ∧
    after (cpu [0xA0#8] { r0 with a := 0x08#8 }) (fun t => t.regs.a == 0#8 && t.flags.ac) := by decide

theorem test_xra : after (cpu [0xA8#8] { r0 with a := 0x5C#8, b := 0x78#8 }) (fun t =>
    t.regs.a == 0x24#8 && t.flags == ⟨false, false, false, true, false⟩) := by decide

theorem test_ora : after (cpu [0xB1#8] { r0 with a := 0x33#8, c := 0x0F#8 } { f0 with cy := true }) (fun t =>
    t.regs.a == 0x3F#8 && t.flags == ⟨false, false, false, true, false⟩) := by decide

theorem test_cmp : after (cpu [0xBB#8] { r0 with a := 0x02#8, e := 0x05#8 }) (fun t =>
    t.regs.a == 0x02#8 && t.flags.toByte == 0x83#8) := by decide

theorem test_ani : after (cpu [0xE6#8, 0x07#8] { r0 with a := 0xF0#8 }) (fun t =>
    t.regs.a == 0x00#8 && t.flags == ⟨false, true, false, true, false⟩) := by decide

theorem test_xri : after (cpu [0xEE#8, 0xAA#8] { r0 with a := 0xAA#8 }) (fun t =>
    t.regs.a == 0x00#8 && t.flags.z && t.flags.p) := by decide

theorem test_ori : after (cpu [0xF6#8, 0x00#8]) (fun t => t.regs.a == 0x00#8 && t.flags.z && t.flags.p && !t.flags.cy) := by
  decide

theorem test_cpi : after (cpu [0xFE#8, 0x05#8] { r0 with a := 0x0A#8 }) (fun t =>
    t.regs.a == 0x0A#8 && t.flags == ⟨false, false, true, true, false⟩) := by decide

theorem test_rlc : after (cpu [0x07#8] { r0 with a := 0xF2#8 }) (fun t => t.regs.a == 0xE5#8 && t.flags.cy) := by decide

theorem test_rrc : after (cpu [0x0F#8] { r0 with a := 0xF2#8 } { f0 with cy := true }) (fun t =>
    t.regs.a == 0x79#8 && !t.flags.cy) := by decide

theorem test_ral : after (cpu [0x17#8] { r0 with a := 0xB5#8 }) (fun t => t.regs.a == 0x6A#8 && t.flags.cy) := by decide

theorem test_rar : after (cpu [0x1F#8] { r0 with a := 0x6A#8 } { f0 with cy := true }) (fun t =>
    t.regs.a == 0xB5#8 && !t.flags.cy) := by decide

theorem test_cma : after (cpu [0x2F#8] { r0 with a := 0x51#8 }) (fun t => t.regs.a == 0xAE#8 && t.flags == f0) := by decide

theorem test_stc : after (cpu [0x37#8]) (fun t => t.flags == { f0 with cy := true }) := by decide

theorem test_cmc : after (cpu [0x3F#8] r0 { f0 with cy := true }) (fun t => t.flags == f0) := by decide

/-! ### Branches: the examples of R124 to R134 -/

theorem test_jmp : after (cpu [0xC3#8, 0x00#8, 0x02#8]) (fun t => t.pc == 0x0200#16 && t.seq.lenCur == 3) ∧
    after (cpu [0xCB#8, 0x00#8, 0x02#8]) (fun t => t.pc == 0x0200#16) := by decide

/-- R126: P = 1: JPO is not taken, PC = 0x0103, and all three bytes count one RUN; S = 1: JM is taken. -/
theorem test_jump_conditions : after (cpu [0xE2#8, 0x00#8, 0x02#8] r0 { f0 with p := true }) (fun t =>
      t.pc == 0x0103#16 && [0x100, 0x101, 0x102, 0x103].map t.runCount == [1, 1, 1, 0]) ∧
    after (cpu [0xFA#8, 0x00#8, 0x02#8] r0 { f0 with s := true }) (fun t => t.pc == 0x0200#16) := by decide

/-- R123: each condition at both values of its flag, through Jccc. -/
theorem test_conditions :
    ([0xC2#8, 0xCA#8, 0xD2#8, 0xDA#8, 0xE2#8, 0xEA#8, 0xF2#8, 0xFA#8].map fun op =>
      after (cpu [op, 0x00#8, 0x02#8] r0 f0) (fun t => t.pc == 0x0200#16)) =
        [true, false, true, false, true, false, true, false] ∧
    ([0xC2#8, 0xCA#8, 0xD2#8, 0xDA#8, 0xE2#8, 0xEA#8, 0xF2#8, 0xFA#8].map fun op =>
      after (cpu [op, 0x00#8, 0x02#8] r0 ⟨true, true, true, true, true⟩) (fun t => t.pc == 0x0200#16)) =
        [false, true, false, true, false, true, false, true] := by decide

theorem test_pchl : after (cpu [0xE9#8] { r0 with h := 0x41#8, l := 0x3E#8 }) (fun t => t.pc == 0x413E#16) := by decide

theorem test_call : after (cpu [0xCD#8, 0x00#8, 0x02#8]) (fun t =>
    t.byteAt 0x2FFF == 0x01#8 && t.byteAt 0x2FFE == 0x03#8 && t.sp == 0x2FFE#16 && t.pc == 0x0200#16 && t.seq.lenCur == 6) := by
  decide

/-- R128: with `stack_on = 1`, `stack_bank = 1` and SP = 0 the return address goes to 0x1FFFF and 0x1FFFE. -/
theorem test_call_bank : after { cpu [0xCD#8, 0x00#8, 0x02#8] with sp := 0#16, map := ⟨true, 1, 0#8, 0⟩ } (fun t =>
    t.byteAt 0x1FFFF == 0x01#8 && t.byteAt 0x1FFFE == 0x03#8 && t.byteAt 0xFFFF == 0#8 && t.sp == 0xFFFE#16) := by decide

/-- R130: Z = 1: CNZ is not taken, in 4 machine cycles; Z = 0: taken, in 6. -/
theorem test_cnz : after (cpu [0xC4#8, 0x00#8, 0x02#8] r0 { f0 with z := true }) (fun t =>
      t.pc == 0x0103#16 && t.sp == 0x3000#16 && t.seq.lenCur == 4) ∧
    after (cpu [0xC4#8, 0x00#8, 0x02#8]) (fun t => t.pc == 0x0200#16 && t.sp == 0x2FFE#16 && t.seq.lenCur == 6) := by decide

/-- R129: 0xED gives the state of the CALL example. -/
theorem test_callU : after (cpu [0xED#8, 0x00#8, 0x02#8]) (fun t =>
    t.byteAt 0x2FFF == 0x01#8 && t.byteAt 0x2FFE == 0x03#8 && t.pc == 0x0200#16) := by decide

/-- SP = 0x2FFE with 0x03, 0x01 above it, as in the examples of R131 and R133. -/
def stacked (bytes : List Byte) (f : Flags := f0) : State :=
  { poke (poke (cpu bytes r0 f) 0x2FFE 0x03#8) 0x2FFF 0x01#8 with sp := 0x2FFE#16 }

theorem test_ret : after (stacked [0xC9#8]) (fun t => t.pc == 0x0103#16 && t.sp == 0x3000#16) ∧
    after (stacked [0xD9#8]) (fun t => t.pc == 0x0103#16 && t.sp == 0x3000#16) := by decide

/-- R133: CY = 1: RNC gives PC = 0x0101 in 2 machine cycles, RC gives PC = 0x0103 in 4. -/
theorem test_return_conditions : after (stacked [0xD0#8] { f0 with cy := true }) (fun t =>
      t.pc == 0x0101#16 && t.sp == 0x2FFE#16 && t.seq.lenCur == 2) ∧
    after (stacked [0xD8#8] { f0 with cy := true }) (fun t =>
      t.pc == 0x0103#16 && t.sp == 0x3000#16 && t.seq.lenCur == 4) := by decide

theorem test_rst : after (cpu [0xDF#8]) (fun t =>
    t.byteAt 0x2FFF == 0x01#8 && t.byteAt 0x2FFE == 0x01#8 && t.sp == 0x2FFE#16 && t.pc == 0x0018#16) := by decide

/-! ### Stack, input/output, control: the examples of R136 to R146 -/

theorem test_push_b : after (cpu [0xC5#8] { r0 with b := 0x12#8, c := 0x34#8 }) (fun t =>
    t.byteAt 0x2FFF == 0x12#8 && t.byteAt 0x2FFE == 0x34#8 && t.sp == 0x2FFE#16) := by decide

theorem test_push_psw : after (cpu [0xF5#8] { r0 with a := 0x1F#8 } ⟨false, true, false, true, true⟩) (fun t =>
    t.byteAt 0x2FFF == 0x1F#8 && t.byteAt 0x2FFE == 0x47#8) := by decide

theorem test_pop_h : after { poke (poke (cpu [0xE1#8]) 0x2FFE 0x3D#8) 0x2FFF 0x93#8 with sp := 0x2FFE#16 } (fun t =>
    t.regs.l == 0x3D#8 && t.regs.h == 0x93#8 && t.sp == 0x3000#16) := by decide

theorem test_pop_psw : after { poke (poke (cpu [0xF1#8]) 0x2FFE 0xFF#8) 0x2FFF 0x42#8 with sp := 0x2FFE#16 } (fun t =>
    t.regs.a == 0x42#8 && t.flags == ⟨true, true, true, true, true⟩ && t.flags.toByte == 0xD7#8) := by decide

theorem test_xthl : after { poke (poke (cpu [0xE3#8] { r0 with h := 0x0B#8, l := 0x3C#8 }) 0x10AD 0xF0#8) 0x10AE 0x0D#8 with
      sp := 0x10AD#16 } (fun t =>
    t.hl == 0x0DF0#16 && t.byteAt 0x10AD == 0x3C#8 && t.byteAt 0x10AE == 0x0B#8 && t.sp == 0x10AD#16) := by decide

theorem test_sphl : after (cpu [0xF9#8] { r0 with h := 0x50#8, l := 0x6C#8 }) (fun t => t.sp == 0x506C#16) := by decide

theorem test_in : after (cpu [0xDB#8, 0x01#8]) (fun t => t.regs.a == 0xA5#8 && t.pc == 0x0102#16) := by decide

theorem test_out : after (cpu [0xD3#8, 0x10#8] { r0 with a := 0x77#8 }) (fun t =>
    t.ports.lastOutPort == 0x10#8 && t.ports.lastOutValue == 0x77#8 && t.pc == 0x0102#16) := by decide

theorem test_ei : after (cpu [0xFB#8]) (fun t => t.intr.inte && t.intr.eip) := by decide

theorem test_di : after { cpu [0xF3#8] with intr := ⟨true, false, false, false⟩ } (fun t => !t.intr.inte) := by decide

/-- R144: after HLT PC = 0x0101 and HLTA = 1; the next boundary fetches it again, two RUN in all. -/
theorem test_hlt : after (cpu [0x76#8]) (fun t => t.pc == 0x0101#16 && t.intr.hlta && t.runCount 0x0100 == 1) ∧
    after { cpu [0x76#8] with pc := 0x0101#16, intr := ⟨false, false, true, false⟩ } (fun t =>
      t.pc == 0x0101#16 && t.intr.hlta && t.runCount 0x0100 == 1) := by decide

theorem test_nop : after (cpu [0x00#8]) (fun t => t.pc == 0x0101#16 && t.seq.mc == 0 && t.seq.cc == 4) ∧
    after (cpu [0x20#8]) (fun t => t.pc == 0x0101#16 && t.regs == r0 && t.flags == f0) := by decide

/-! ### The interrupt: the examples of R161 and R162 -/

theorem test_accept : afterLine true { cpu [] with pc := 0x0105#16, intr := ⟨true, false, false, false⟩ } (fun t =>
    t.pc == 0x0038#16 && t.sp == 0x2FFE#16 && t.byteAt 0x2FFF == 0x01#8 && t.byteAt 0x2FFE == 0x05#8 &&
    !t.intr.inte && !t.intr.iff && t.seq.ir == 0xFF#8 && t.seq.lenCur == 4 && t.runCount 0x0105 == 0) := by decide

/-- R162: the boundary after EI latches the request and fetches the NOP; EIP is cleared. -/
theorem test_ei_defers : afterLine true { cpu [0xFB#8, 0x00#8] with pc := 0x0101#16, intr := ⟨true, false, false, true⟩ } (fun t =>
    t.pc == 0x0102#16 && !t.intr.eip && t.intr.iff && t.intr.inte) := by decide

/-- R159: a request while INTE = 0 is lost when gated and kept when ungated. -/
theorem test_latch : afterLine true (cpu [0x00#8]) (fun t => !t.intr.iff) ∧
    afterLine true { cpu [0x00#8] with config := { config2 with irqLatch := .ungated } } (fun t => t.intr.iff) := by decide

/-! ### Translation at the window boundaries (20_memory R32 to R34) -/

/-- The 0xA000 window alone, RAM bank 1: 0x7FFF, 0x9FFF, 0xA000, 0xDFFF, 0xE000. -/
theorem test_translate_ram : [0x7FFF, 0x9FFF, 0xA000, 0xDFFF, 0xE000, 0x1A000].map
      (fun a => State.translate { cpu [] with map := ⟨false, 0, 0x20#8, 1⟩ } a .ram) =
    [0x7FFF, 0x9FFF, 0x1A000, 0x1DFFF, 0xE000, 0x1A000] := by decide

/-- The 0x8000 and 0xE000 windows, RAM bank 2. -/
theorem test_translate_ram_others : [0x7FFF, 0x8000, 0x9FFF, 0xA000, 0xDFFF, 0xE000, 0xFFFF].map
      (fun a => State.translate { cpu [] with map := ⟨false, 0, 0xC0#8, 2⟩ } a .ram) =
    [0x7FFF, 0x28000, 0x29FFF, 0xA000, 0xDFFF, 0x2E000, 0x2FFFF] := by decide

/-- STACK space ignores the RAM mapping; GLOBAL wraps at IMAGE_SIZE (three banks here). -/
theorem test_translate_stack_global :
    State.translate { cpu [] with map := ⟨true, 2, 0xFF#8, 1⟩ } 0xB000 .stack = 0x2B000 ∧
    State.translate { cpu [] with map := ⟨false, 2, 0xFF#8, 1⟩ } 0xB000 .stack = 0xB000 ∧
    State.translate (cpu []) 0x2FFFF .global = 0x2FFFF ∧ State.translate (cpu []) 0x30000 .global = 0 := by decide

/-! ### The disassembler: the examples of R151 and R152 -/

theorem test_decodeOne : decodeOne (cpu [0x21#8, 0x34#8, 0x12#8]) 0x0100 = ("LXI H, 0x1234", 3) ∧
    decodeOne (cpu [0xDB#8, 0x01#8]) 0x0100 = ("IN 0x01", 2) := by decide

theorem test_backwardScan : backwardScan (cpu []) 0x0010#16 2 = some 0x000E#16 ∧
    backwardScan (cpu [0x21#8, 0x34#8, 0x12#8, 0x3E#8, 0x05#8, 0x76#8]) 0x0106#16 3 = some 0x0100#16 ∧
    backwardScan (cpu [0x21#8, 0x34#8, 0x12#8, 0x3E#8, 0x05#8, 0x76#8]) 0x0105#16 2 = none ∧
    backwardScan (cpu []) 0x0001#16 2 = some 0xFFFF#16 := by decide

theorem test_listing : instrLine
    (cpu [0x3E#8, 0x05#8]) 0x0100#16 = "0x0100\tMVI A, 0x05\t0,0,0" ∧ dataLine (cpu [0x05#8]) 0x0100#16 =
      "0x0100\t_DB 0x05\t0,0,0" := by decide

/-- R7: the host's decode_one prints the strings of the parameter `MNEMONIC`, here 256 invented ones. -/
theorem test_mnemonic_parameter : hostDecodeOne 0x0100
    { cpu [0xC3#8, 0x00#8, 0x02#8] with config := { config2 with mnemonics := List.replicate 256 "jump" } } =
      .next ("jump 0x0200", 3) := rfl

/-- R154, 92 D26: every line of the host's listing is ended by a line feed; R153: the fallback renders the n bytes before the
end. -/
theorem test_hostListing :
    listingText (listing (cpu [0x3E#8, 0x05#8]) 0x0102#16 1) = "0x0100\tMVI A, 0x05\t0,0,0\n" ∧
    listingText (listing (cpu [0x21#8, 0x34#8, 0x12#8, 0x3E#8, 0x05#8]) 0x0105#16 2) =
      "0x0103\t_DB 0x3E\t0,0,0\n0x0104\t_DB 0x05\t0,0,0\n" := by decide

/-- R150: the number of opcodes of each kind. -/
theorem test_cfKind : ([CfKind.call, .conditionalCall, .reset, .indirectJump, .unconditionalJump, .conditionalJump,
      .returnFamily, .other].map fun k => (List.range 256).countP fun n => cfKind (BitVec.ofNat 8 n) == k) =
    [4, 8, 8, 1, 2, 8, 10, 215] := by decide +kernel

/-! ### Witnesses: for every obligation with hypotheses, states and operands that meet all of them -/

/-- The processor between two machine cycles of a PUSH. -/
def between : State := { cpu [0xC5#8] with seq := ⟨1, 0xC5#8, 4, 4⟩ }

/-- A request is pending and enabled at a boundary. -/
def pending : State := { cpu [0x00#8] with intr := ⟨true, true, false, false⟩ }

/-- HLT was executed at 0x0100. -/
def halted : State := { cpu [0x76#8] with pc := 0x0101#16, intr := ⟨false, false, true, false⟩ }

set_option maxRecDepth 4000 in
/-- FramePulseOncePerFrame: parameters that construction takes. -/
theorem test_witness_legal : config2.Legal := by decide

/-- StepKeepsInvariant, ExecuteInstructionRunsOneWhole, ExecuteFrameEnds: a state that meets the invariant, at a boundary, with
the raster position a whole number of quanta. -/
theorem test_witness_inv : (cpu [0xC5#8]).Inv ∧ (cpu [0xC5#8]).seq.mc = 0 ∧
    (cpu [0xC5#8]).config.pixelQuantum ∣ (cpu [0xC5#8]).raster.pixel ∧ after (cpu [0xC5#8]) (fun t => t.pc == 0x0101#16) := by
  refine ⟨⟨test_witness_legal, ?_, ?_, ?_, ?_, ?_⟩, rfl, by decide, by decide⟩
  · exact ⟨by decide, by decide⟩
  · exact ⟨⟨by decide, by decide⟩, ⟨by decide, by decide⟩, ⟨by decide, by decide⟩⟩
  · exact ⟨by decide, by decide⟩
  · exact ⟨by decide, by decide⟩
  · exact ⟨by decide, by decide, by decide⟩

/-- StepRunsDecodedInstruction: MVI A,0x05 at a boundary with nothing pending. -/
theorem test_witness_stepRuns : (cpu [0x3E#8, 0x05#8]).seq.mc = 0 ∧
    ((cpu [0x3E#8, 0x05#8]).rasterTick.latch (cpu [0x3E#8, 0x05#8]).rasterTick.raster.t50).accepts = false ∧
    decode [(cpu [0x3E#8, 0x05#8]).read 0x0100 .ram, (cpu [0x3E#8, 0x05#8]).read 0x0101 .ram,
      (cpu [0x3E#8, 0x05#8]).read 0x0102 .ram] = .ok (.mviR .a 0x05#8) [0#8] ∧
    (cpu [0x3E#8, 0x05#8]).fetchAddr = 0x0100#16 ∧ (Instr.mviR .a 0x05#8).wellFormed = true := by decide

/-- ClockCounterGrowsByFour: `execute_instruction` of PUSH B answers a next state, 16 ticks later (R69, R72). -/
theorem test_witness_executeInstruction : (match executeInstruction (cpu [0xC5#8]) with
    | .next r => r.1.seq.cc == 16 && r.1.seq.lenCur == 4 && !r.2
    | .fault _ => false
    | .refused _ => false) = true := by decide

/-- LaterCyclesOnlyCount, HostCallsRefusedMidInstruction, InterruptAcceptedExactlyWhenEnabled (its last clause). -/
theorem test_witness_between : between.seq.mc ≠ 0 ∧
    afterLine true between (fun t => t.seq.mc == 2 && t.seq.cc == 8) ∧
    hostReset between = .refused .offBoundary ∧ executeFrame between = .refused .offBoundary :=
  ⟨by decide, by decide, rfl, rfl⟩

/-- StepLeavesMappingAlone: steps that answer a next state. -/
theorem test_witness_mapping : after { cpu [0x00#8] with map := ⟨true, 2, 0xE0#8, 1⟩ } (fun t => t.map == ⟨true, 2, 0xE0#8, 1⟩) ∧
    afterLine true pending (fun t => t.map == pending.map) := by decide

/-- InterruptAcceptedExactlyWhenEnabled, AcceptancePushesAndJumps, EiDefersOneInstruction (its last clause): accepted; and
for each of the three conditions a state that fails it alone. -/
theorem test_witness_accept : pending.seq.mc = 0 ∧ (pending.latch false).intr.iff = true ∧ pending.intr.inte = true ∧
    pending.intr.eip = false ∧ pending.intr.iff = true ∧
    afterLine false pending (fun t => t.seq.ir == 0xFF#8 && t.pc == 0x0038#16) ∧
    afterLine false { pending with intr := ⟨true, false, false, false⟩ } (fun t => t.seq.ir == 0x00#8) ∧
    afterLine false { pending with intr := ⟨false, true, false, false⟩ } (fun t => t.seq.ir == 0x00#8) ∧
    afterLine false { pending with intr := ⟨true, true, false, true⟩ } (fun t => t.seq.ir == 0x00#8 && !t.intr.eip) := by
  decide

/-- EiDefersOneInstruction: the boundary right after EI, with a request in it and with one pending. -/
theorem test_witness_ei : { cpu [0x00#8] with intr := ⟨true, false, false, true⟩ }.seq.mc = 0 ∧
    { cpu [0x00#8] with intr := ⟨true, false, false, true⟩ }.intr.eip = true ∧
    afterLine true { cpu [0x00#8] with intr := ⟨true, false, false, true⟩ } (fun t => t.intr.iff && t.seq.ir == 0x00#8) ∧
    afterLine false { cpu [0x00#8] with intr := ⟨true, true, false, true⟩ } (fun t => t.intr.iff && t.seq.ir == 0x00#8) := by
  decide

/-- HaltRefetchesItself: halted, nothing accepted, HLT still at PC - 1. -/
theorem test_witness_halted : halted.seq.mc = 0 ∧ halted.intr.hlta = true ∧ (halted.latch false).accepts = false ∧
    halted.read (halted.pc - 1).toNat .ram = 0x76#8 := by decide

/-- RasterTickCounts: both clauses, and the last line of the frame (R167 with the default geometry). -/
theorem test_witness_raster :
    ({ cpu [] with raster := ⟨736, 311, false⟩ }.rasterTick).raster = ⟨752, 311, false⟩ ∧
    ({ cpu [] with raster := ⟨752, 310, false⟩ }.rasterTick).raster = ⟨0, 311, false⟩ ∧
    ({ cpu [] with raster := ⟨752, 311, false⟩ }.rasterTick).raster = ⟨0, 0, true⟩ := by decide

/-- LoadPlacesTheBlob: the longest blob, one byte more, and a load that is accepted. -/
theorem test_witness_load : (cpu []).seq.mc = 0 ∧ (List.replicate 0xFF00 (0x76#8 : Byte)).length ≤ 0xFF00 ∧
    0xFF00 < (List.replicate 0xFF01 (0x76#8 : Byte)).length ∧
    hostLoad (some [0x3E#8, 0x05#8]) (cpu [0x76#8]) =
      .next { State.resetWith config2 with img := [(0x0100, 0x3E#8), (0x0101, 0x05#8)] } := by
  refine ⟨rfl, List.length_replicate.le, ?_, rfl⟩
  rw [List.length_replicate]
  omega

/-- SetMappingChecksBanks: the last bank there is, and the one after it. -/
theorem test_witness_setMapping : (cpu []).seq.mc = 0 ∧ (⟨true, 2, 0#8, 2⟩ : Mapping).stackBank ≤ (cpu []).config.numExtBanks ∧
    hostSetMapping ⟨true, 2, 0#8, 2⟩ (cpu []) = .next { cpu [] with map := ⟨true, 2, 0#8, 2⟩ } ∧
    hostSetMapping ⟨true, 3, 0#8, 2⟩ (cpu []) = .refused .bankIndex ∧
    hostSetMapping ⟨true, 0, 0#8, 3⟩ (cpu []) = .refused .bankIndex := ⟨rfl, by decide, rfl, rfl, rfl⟩

/-- BackwardScanLandsOnEnd: a scan whose third attempt is the first that fits (R152's worked case); decoding forward from
its answer lands on the end; and a scan that no attempt fits. -/
theorem test_witness_backwardScan : backwardScan (cpu []) 0x0010#16 2 = some 0x000E#16 ∧
    ((cpu []).bytesFrom 2 0x000A#16 = 2 ∧ (cpu []).bytesFrom 2 0x000C#16 = 2 ∧ (cpu []).bytesFrom 2 0x000E#16 = 2) ∧
    backwardScan (cpu [0x00#8, 0xC3#8, 0xC3#8]) 0x0103#16 1 = none ∧
    (fun x : Word => x + BitVec.ofNat 16 (lenOf ((cpu []).read x.toNat .ram)))^[2] 0x000E#16 = 0x0010#16 := by decide

/-- TranslationStaysInImage: the last bank, at the last address. -/
theorem test_witness_mappingOk : { cpu [] with map := ⟨true, 2, 0xFF#8, 2⟩ }.MappingOk ∧
    State.translate { cpu [] with map := ⟨true, 2, 0xFF#8, 2⟩ } 0xFFFF .ram = 0x2FFFF ∧
    config2.imageSize = 0x30000 := ⟨⟨by decide, by decide⟩, by decide, by decide⟩

/-- ReadReturnsLastWrite: the same offset by two spaces, and two offsets. -/
theorem test_witness_write : (cpu []).translate 0x12000 .ram = (cpu []).translate 0x2000 .stack ∧
    ((cpu []).write 0x2000 0x55#8 .stack).read 0x12000 .ram = 0x55#8 ∧
    (cpu []).translate 0x12000 .global ≠ (cpu []).translate 0x2000 .stack ∧ Memory.wf (cpu [0x76#8]).img := by decide

/-- DaaGivesDecimalSum: 99 + 99 + 1 is 199. -/
theorem test_witness_daa : (0x99#8 : Byte).toNat % 16 ≤ 9 ∧ (0x99#8 : Byte).toNat / 16 ≤ 9 ∧
    (daa8 (add8 0x99#8 0x99#8 true).r (add8 0x99#8 0x99#8 true).flags.ac (add8 0x99#8 0x99#8 true).flags.cy).r = 0x99#8 ∧
    (daa8 (add8 0x99#8 0x99#8 true).r (add8 0x99#8 0x99#8 true).flags.ac (add8 0x99#8 0x99#8 true).flags.cy).flags.cy =
      true := by decide

/-- DecimalAdjust: `lo` and `hi` of A = 0x9B. -/
theorem test_witness_decimalAdjust : true = decide (f0.ac = true ∨ (0x9B#8 : Byte).toNat % 16 > 9) ∧
    true = decide (f0.cy = true ∨ (0x9B#8 : Byte).toNat / 16 > 9 ∨
      ((0x9B#8 : Byte).toNat / 16 ≥ 9 ∧ (0x9B#8 : Byte).toNat % 16 > 9)) := by decide

/-- StoreOneByte, LoadAccumulator: the pairs of STAX and LDAX. -/
theorem test_witness_index : (RegPair.de, (0x12#8 : Byte)) ∈ [(RegPair.bc, 0x02#8), (RegPair.de, 0x12#8)] ∧
    (RegPair.bc, (0x0A#8 : Byte)) ∈ [(RegPair.bc, 0x0A#8), (RegPair.de, 0x1A#8)] := by decide

/-- PairLoadAndStep, PushAndPop: a pair that is not the destination. -/
theorem test_witness_pairs : RegPair.sp ≠ RegPair.hl ∧ StackPair.bc ≠ StackPair.hl ∧ StackPair.bc ≠ StackPair.psw ∧
    StackPair.hl ≠ StackPair.psw := by decide

/-- LogicalInstructions, IncrementDecrement, RotatesMoveOneBit: a member of each list. -/
theorem test_witness_alu (src : Operand) (s : State) :
    ((.xra src, .xor, 0b10101#5 ++ src.code) : Instr × LogicOp × Byte) ∈
      [(.ana src, .and, 0b10100#5 ++ src.code), (.xra src, .xor, 0b10101#5 ++ src.code),
        (.ora src, .or, 0b10110#5 ++ src.code)] ∧
    ((.ori 1#8, .or, 0xF6#8) : Instr × LogicOp × Byte) ∈ [(.ani 1#8, .and, 0xE6#8), (.xri 1#8, .xor, 0xEE#8), (.ori 1#8, .or, 0xF6#8)] ∧
    (false, 255) ∈ [(true, 1), (false, 255)] ∧
    ((.rlc, 0x07#8, s.regs.a.toNat * 2 % 256 + s.regs.a.toNat / 128, decide (128 ≤ s.regs.a.toNat)) :
      Instr × Byte × Nat × Bool) ∈
      [(.rlc, 0x07#8, s.regs.a.toNat * 2 % 256 + s.regs.a.toNat / 128, decide (128 ≤ s.regs.a.toNat))] := by
  refine ⟨by simp, by simp, by simp, by simp⟩

/-- JumpsSetPc, CallsPushReturnAddress, ReturnsPopPc: with every flag 0, the NZ forms are taken and the Z forms are not. -/
theorem test_witness_branches :
    ((.jnz 0x0200#16, 0xC2#8, true) : Instr × Byte × Bool) ∈
      [(.jnz 0x0200#16, 0xC2#8, !(cpu []).flags.z), (.jz 0x0200#16, 0xCA#8, (cpu []).flags.z)] ∧
    ((.cnz 0x0200#16, 0xC4#8, true) : Instr × Byte × Bool) ∈
      [(.cnz 0x0200#16, 0xC4#8, !(cpu []).flags.z), (.cz 0x0200#16, 0xCC#8, (cpu []).flags.z)] ∧
    ((.cz 0x0200#16, 0xCC#8, false) : Instr × Byte × Bool) ∈
      [(.cnz 0x0200#16, 0xC4#8, !(cpu []).flags.z), (.cz 0x0200#16, 0xCC#8, (cpu []).flags.z)] ∧
    ((.rnz, 0xC0#8, true, 4, 2) : Instr × Byte × Bool × Nat × Nat) ∈
      [(.rnz, 0xC0#8, !(cpu []).flags.z, 4, 2), (.rz, 0xC8#8, (cpu []).flags.z, 4, 2)] ∧
    ((.rz, 0xC8#8, false, 4, 2) : Instr × Byte × Bool × Nat × Nat) ∈
      [(.rnz, 0xC0#8, !(cpu []).flags.z, 4, 2), (.rz, 0xC8#8, (cpu []).flags.z, 4, 2)] := by decide

/-- PortInputAndOutput: a state with the stub and one with an external device. -/
theorem test_witness_ports : (cpu []).config.portDevice = .stub 0xA5#8 ∧
    { cpu [] with config := { config2 with portDevice := .external } }.config.portDevice = .external := by decide

/-- MachineControl, DecodeOfEncode, UndocumentedOpcodesDuplicate. -/
theorem test_witness_encoding : (4#3 : BitVec 3) ≠ 0#3 ∧ (Instr.callU 2#2 0x0200#16).wellFormed = true ∧
    decode (encode (.callU 2#2 0x0200#16) ++ [0x76#8]) = .ok (.callU 2#2 0x0200#16) [0x76#8] ∧
    ((0xED#8, 0xCD#8) : Byte × Byte) ∈ [(0xED#8, 0xCD#8), (0xFD#8, 0xCD#8)] := by decide

end Sys2Proof.Tests
end

namespace Sys2Proof.Machine

/-! ### Parity (10_state R18) -/

/-- Counting over one index more adds the predicate's bit at that index. -/
theorem countP_range_succ (p : Nat → Bool) (n : Nat) :
    (List.range (n + 1)).countP p = (List.range n).countP p + (p n).toNat := by
  rw [List.range_succ, List.countP_append, List.countP_singleton]
  cases p n <;> rfl

/-- The model's sum of the eight bits is the count of the indexes whose bit is set. -/
theorem popcount_eq_countP (x : Byte) : popcount x = (List.range 8).countP fun k => x.getLsbD k := by
  simp only [popcount, countP_range_succ, List.range_zero, List.countP_nil, Nat.zero_add]

/-- Settles O31: `parity` tests the evenness of `popcount`, which is the count of set bits. -/
theorem parityCountsSetBits : Obligations.ParityCountsSetBits := by
  intro x
  rw [parity, popcount_eq_countP]
  exact beq_eq_decide _ _

end Sys2Proof.Machine

namespace Sys2Proof.Machine

/-! ### The undocumented opcodes (30_encoding R59) -/

/-- R58, R59: an opcode 00nnn000 with nnn not 0 is `*NOP`. -/
theorem instrOf_nopU (dup : BitVec 3) (hdup : dup ≠ 0#3) (b2 b3 : Byte) :
    instrOf (0b00#2 ++ dup ++ 0#3) b2 b3 = .nopU dup := by
  have hquarter : opQuarter (0b00#2 ++ dup ++ 0#3) = 0#2 := by revert dup; decide
  have hmid : opMid (0b00#2 ++ dup ++ 0#3) = dup := by revert dup; decide
  have hlow : opLow (0b00#2 ++ dup ++ 0#3) = 0#3 := by revert dup; decide
  simp [instrOf, instrOfRow0, hquarter, hmid, hlow, hdup]

/-- R58, R59: an opcode 11pp1101 with pp not 0 is `*CALL` on the address in its two immediate bytes. -/
theorem instrOf_callU (dup : BitVec 2) (hdup : dup ≠ 0#2) (b2 b3 : Byte) :
    instrOf (0b11#2 ++ dup ++ 0b1101#4) b2 b3 = .callU dup (b3 ++ b2) := by
  obtain rfl | rfl | rfl : dup = 1#2 ∨ dup = 2#2 ∨ dup = 3#2 := by revert dup; decide
  · rfl
  · rfl
  · rfl

theorem exec_nopU (dup : BitVec 3) (s : State) : exec (.nopU dup) s = exec .nop s := rfl

theorem exec_jmpU (target : Word) (s : State) : exec (.jmpU target) s = exec (.jmp target) s := rfl

theorem exec_retU (s : State) : exec .retU s = exec .ret s := rfl

theorem exec_callU (dup : BitVec 2) (target : Word) (s : State) :
    exec (.callU dup target) s = exec (.call target) s := rfl

/-- R59: the first opcode has the second's length, its machine cycles and, with every immediate in every state, its
effect. -/
def Duplicates (op op' : Byte) : Prop :=
  lenOf op = lenOf op' ∧ Config.default.cyclesOf op = Config.default.cyclesOf op' ∧
  ∀ (b2 b3 : Byte) (s : State), exec (instrOf op b2 b3) s = exec (instrOf op' b2 b3) s

theorem nopU_duplicates_nop (dup : BitVec 3) (hdup : dup ≠ 0#3) : Duplicates (0b00#2 ++ dup ++ 0#3) 0x00#8 := by
  refine ⟨?_, ?_, fun b2 b3 s => ?_⟩
  · revert dup; decide
  · revert dup; decide
  · rw [instrOf_nopU dup hdup]
    exact exec_nopU dup s

theorem jmpU_duplicates_jmp : Duplicates 0xCB#8 0xC3#8 :=
  ⟨by decide, by decide, fun b2 b3 s => exec_jmpU (b3 ++ b2) s⟩

theorem retU_duplicates_ret : Duplicates 0xD9#8 0xC9#8 :=
  ⟨by decide, by decide, fun _ _ s => exec_retU s⟩

theorem callU_duplicates_call (dup : BitVec 2) (hdup : dup ≠ 0#2) :
    Duplicates (0b11#2 ++ dup ++ 0b1101#4) 0xCD#8 := by
  refine ⟨?_, ?_, fun b2 b3 s => ?_⟩
  · revert dup; decide
  · revert dup; decide
  · rw [instrOf_callU dup hdup]
    exact exec_callU dup (b3 ++ b2) s

/-- Settles O60: the seven `*NOP`, one `*JMP`, one `*RET` and three `*CALL` opcodes each duplicate the documented one. -/
theorem undocumentedOpcodesDuplicate : Obligations.UndocumentedOpcodesDuplicate := by
  unfold Obligations.UndocumentedOpcodesDuplicate
  simp only [List.forall_mem_cons]
  exact ⟨nopU_duplicates_nop 1#3 (by decide), nopU_duplicates_nop 2#3 (by decide), nopU_duplicates_nop 3#3 (by decide),
    nopU_duplicates_nop 4#3 (by decide), nopU_duplicates_nop 5#3 (by decide), nopU_duplicates_nop 6#3 (by decide),
    nopU_duplicates_nop 7#3 (by decide), jmpU_duplicates_jmp, retU_duplicates_ret, callU_duplicates_call 1#2 (by decide),
    callU_duplicates_call 2#2 (by decide), callU_duplicates_call 3#2 (by decide), List.forall_mem_nil _⟩

end Sys2Proof.Machine

namespace Sys2Proof.Machine

/-! ### Every opcode has an instruction and a length (40_sequencer R76) -/

theorem jumpOn_wellFormed (cond : Cond) (target : Word) : (jumpOn cond target).wellFormed = true := by
  cases cond <;> rfl

theorem callOn_wellFormed (cond : Cond) (target : Word) : (callOn cond target).wellFormed = true := by
  cases cond <;> rfl

theorem returnOn_wellFormed (cond : Cond) : (returnOn cond).wellFormed = true := by
  cases cond <;> rfl

/-- R58, rows 0x to 3x: `*NOP` is answered for a middle field other than 0 only, LDAX and STAX on BC and DE only. -/
theorem instrOfRow0_wellFormed (op b2 b3 : Byte) : (instrOfRow0 op b2 b3).wellFormed = true := by
  unfold instrOfRow0
  split
  · split
    · rfl
    · next hmid => exact bne_iff_ne.mpr hmid
  · split <;> rfl
  · split <;> rfl
  · split <;> rfl
  · rfl
  · rfl
  · split <;> rfl
  · split <;> rfl

theorem instrOfMov_wellFormed (op : Byte) : (instrOfMov op).wellFormed = true := by
  unfold instrOfMov
  split <;> rfl

theorem instrOfAlu_wellFormed (op : Byte) : (instrOfAlu op).wellFormed = true := by
  unfold instrOfAlu
  dsimp only
  split <;> rfl

/-- R58, rows Cx to Fx: `*CALL` is answered with the duplicates 1, 2 and 3 only. -/
theorem instrOfRow3_wellFormed (op b2 b3 : Byte) : (instrOfRow3 op b2 b3).wellFormed = true := by
  unfold instrOfRow3
  split
  · exact returnOn_wellFormed _
  · split <;> rfl
  · exact jumpOn_wellFormed _ _
  · split <;> rfl
  · exact callOn_wellFormed _ _
  · split <;> rfl
  · split <;> rfl
  · rfl

theorem instrOf_wellFormed (op b2 b3 : Byte) : (instrOf op b2 b3).wellFormed = true := by
  unfold instrOf
  split
  · exact instrOfRow0_wellFormed op b2 b3
  · exact instrOfMov_wellFormed op
  · exact instrOfAlu_wellFormed op
  · exact instrOfRow3_wellFormed op b2 b3

/-- A look-up in a cycle table keeps the bounds of the table's entries; beyond the table it answers 1. -/
theorem getD_one_mem_range {l : List Nat} (h : ∀ n ∈ l, 1 ≤ n ∧ n ≤ 6) (k : Nat) :
    1 ≤ l.getD k 1 ∧ l.getD k 1 ≤ 6 := by
  by_cases hk : k < l.length
  · rw [List.getD_eq_getElem _ _ hk]
    exact h _ (List.getElem_mem hk)
  · rw [List.getD_eq_default _ _ (Nat.le_of_not_lt hk)]
    decide

/-- R72, R76: the entries of the default `CYCLES`, opcode row by opcode row. -/
theorem defaultCycles_mem_range : ∀ n ∈ defaultCycles, 1 ≤ n ∧ n ≤ 6 := by
  simp only [defaultCycles, List.forall_mem_append]
  decide

/-- R72, R76: the entries of the default `CYCLES_NT`, opcode row by opcode row. -/
theorem defaultCyclesNT_mem_range : ∀ n ∈ defaultCyclesNT, 1 ≤ n ∧ n ≤ 6 := by
  simp only [defaultCyclesNT, List.forall_mem_append]
  decide

theorem cyclesOf_default_mem_range (op : Byte) : 1 ≤ Config.default.cyclesOf op ∧ Config.default.cyclesOf op ≤ 6 :=
  getD_one_mem_range defaultCycles_mem_range op.toNat

theorem cyclesNTOf_default_mem_range (op : Byte) :
    1 ≤ Config.default.cyclesNTOf op ∧ Config.default.cyclesNTOf op ≤ 6 :=
  getD_one_mem_range defaultCyclesNT_mem_range op.toNat

/-! ### The three branches of a processor step (40_sequencer R64) -/

/-- R65, R75: between two boundaries a step latches the request and counts. -/
theorem procStep_between (line : Bool) {s : State} (hmc : s.seq.mc ≠ 0) :
    procStep line s = .next (s.latch line).endCycle := by
  simp [procStep, State.atBoundary, hmc]

/-- R160, R161: a boundary that accepts the interrupt runs the forced RST 7. -/
theorem procStep_accept {line : Bool} {s : State} (hmc : s.seq.mc = 0) (hacc : (s.latch line).accepts = true) :
    procStep line s = .next (s.latch line).acceptInterrupt.setLength.endCycle := by
  simp [procStep, State.atBoundary, hmc, hacc]

/-- R64, R66: a boundary that accepts no interrupt runs the instruction it fetches. -/
theorem procStep_fetch {line : Bool} {s t : State} (hmc : s.seq.mc = 0) (hacc : (s.latch line).accepts = false)
    (hexec : exec (s.latch line).beginFetch.fetchInstr.1 (s.latch line).beginFetch.fetchInstr.2.setLength = .next t) :
    procStep line s = .next t.endCycle := by
  simp [procStep, State.atBoundary, hmc, hacc, hexec]

/-- R64, R69: every processor step answers a next state. In it `cc` is 4 further and `machine_cycle` one further modulo
`len_cur`, which only a boundary sets. -/
theorem procStep_seq (line : Bool) (s : State) :
    ∃ t, procStep line s = .next t ∧ t.seq.cc = s.seq.cc + 4 ∧ t.seq.mc = (s.seq.mc + 1) % t.seq.lenCur ∧
      (s.seq.mc ≠ 0 → t.seq.lenCur = s.seq.lenCur) := by
  by_cases hmc : s.seq.mc = 0
  · cases hacc : (s.latch line).accepts with
    | true => exact ⟨_, procStep_accept hmc hacc, by simp [ticksPerMc], by simp, fun h => absurd hmc h⟩
    | false =>
      obtain ⟨t, hexec, -, hseq, -, -⟩ := exec_keeps (s.latch line).beginFetch.fetchInstr.1
        (s.latch line).beginFetch.fetchInstr.2.setLength
      obtain ⟨-, hfetch, -⟩ := State.fetchInstr_spec (s.latch line).beginFetch
      exact ⟨_, procStep_fetch hmc hacc hexec, by simp [hseq, hfetch, ticksPerMc], by simp [hseq, hfetch],
        fun h => absurd hmc h⟩
  · exact ⟨_, procStep_between line hmc, by simp [ticksPerMc], by simp, fun _ => by simp⟩

/-- Settles O4: the decoder and the cycle tables by their rows, the meanings by `exec_keeps`, the steps by
`procStep_seq`. -/
theorem everyStepCompletes : Obligations.EveryStepCompletes := by
  refine ⟨fun op b2 b3 => ⟨instrOf_wellFormed op b2 b3, cyclesOf_default_mem_range op, cyclesNTOf_default_mem_range op⟩,
    fun i s => ?_, fun line s => ?_, fun s => ?_⟩
  · obtain ⟨t, hexec, -⟩ := exec_keeps i s
    exact ⟨t, hexec⟩
  · obtain ⟨t, hstep, -⟩ := procStep_seq line s
    exact ⟨t, hstep⟩
  · obtain ⟨t, hstep, -⟩ := procStep_seq s.rasterTick.raster.t50 s.rasterTick
    exact ⟨t, hstep⟩

end Sys2Proof.Machine

namespace Sys2Proof.Machine

/-! ### Nothing but `cc` depends on `cc` (40_sequencer R69) -/

/-- R69: the state with another clock counter. -/
def State.withCc (s : State) (n : Nat) : State := { s with seq := { s.seq with cc := n } }

theorem State.withCc_flags (s : State) (n : Nat) : (s.withCc n).flags = s.flags := rfl

theorem State.setPair_withCc (s : State) (n : Nat) (p : RegPair) (v : Word) :
    (s.withCc n).setPair p v = (s.setPair p v).withCc n := by
  cases p <;> rfl

theorem State.setStackPair_withCc (s : State) (n : Nat) (p : StackPair) (v : Word) :
    (s.withCc n).setStackPair p v = (s.setStackPair p v).withCc n := by
  cases p <;> rfl

theorem accOp_withCc (op : Byte → Byte → AluResult) (src : Operand) (s : State) (n : Nat) :
    accOp op src (s.withCc n) = (accOp op src s).withCc n := by
  cases src <;> rfl

theorem stepOp_withCc (op : Byte → AluResult) (dst : Operand) (s : State) (n : Nat) :
    stepOp op dst (s.withCc n) = (stepOp op dst s).withCc n := by
  cases dst <;> rfl

theorem jumpIf_withCc (cond : Cond) (target : Word) (s : State) (n : Nat) :
    jumpIf cond target (s.withCc n) = (jumpIf cond target s).withCc n := by
  rw [jumpIf, jumpIf, State.withCc_flags]
  split <;> rfl

theorem callIf_withCc (cond : Cond) (target : Word) (s : State) (n : Nat) :
    callIf cond target (s.withCc n) = (callIf cond target s).withCc n := by
  rw [callIf, callIf, State.withCc_flags]
  split <;> rfl

theorem returnIf_withCc (cond : Cond) (s : State) (n : Nat) :
    returnIf cond (s.withCc n) = (returnIf cond s).withCc n := by
  rw [returnIf, returnIf, State.withCc_flags]
  split <;> rfl

/-- R69: no instruction reads or writes `cc`. The shared operations above stand for their instructions; every other
meaning is a record update of fields that `withCc` leaves as they are. -/
theorem exec_withCc (i : Instr) (s : State) (n : Nat) :
    ∃ t, exec i s = .next t ∧ exec i (s.withCc n) = .next (t.withCc n) := by
  cases i <;> refine ⟨_, rfl, ?_⟩
  case lxi | inx | dcx => exact congrArg Host.Outcome.next (State.setPair_withCc s n _ _)
  case pop => exact congrArg Host.Outcome.next (State.setStackPair_withCc s.pop16.2 n _ _)
  case add | adc | sub | sbb | ana | xra | ora => exact congrArg Host.Outcome.next (accOp_withCc _ _ s n)
  case inr | dcr => exact congrArg Host.Outcome.next (stepOp_withCc _ _ s n)
  case cmp src => cases src <;> rfl
  case jnz | jz | jnc | jc | jpo | jpe | jp | jm => exact congrArg Host.Outcome.next (jumpIf_withCc _ _ s n)
  case cnz | cz | cnc | cc | cpo | cpe | cp | cm => exact congrArg Host.Outcome.next (callIf_withCc _ _ s n)
  case rnz | rz | rnc | rc | rpo | rpe | rp | rm => exact congrArg Host.Outcome.next (returnIf_withCc _ s n)
  all_goals rfl

theorem State.latch_withCc (s : State) (n : Nat) (line : Bool) : (s.withCc n).latch line = (s.latch line).withCc n := by
  have hguard : (line && ((s.withCc n).intr.inte || (s.withCc n).config.irqLatch == .ungated)) =
      (line && (s.intr.inte || s.config.irqLatch == .ungated)) := rfl
  rw [State.latch, State.latch, hguard]
  split <;> rfl

/-- Fetching an instruction reads the image through PC, not `cc`. -/
theorem State.fetchInstr_withCc (s : State) (n : Nat) :
    (s.withCc n).fetchInstr = (s.fetchInstr.1, s.fetchInstr.2.withCc n) := by
  have hopcode : (s.withCc n).fetchOpcode = s.fetchOpcode.withCc n := rfl
  have hir : (s.fetchOpcode.withCc n).seq.ir = s.fetchOpcode.seq.ir := rfl
  have hfetch : ∀ u : State, (u.withCc n).fetch = (u.fetch.1, u.fetch.2.withCc n) := fun _ => rfl
  unfold State.fetchInstr
  simp only [hopcode, hir]
  rcases lenOf_cases s.fetchOpcode.seq.ir with h | h | h <;> simp only [h, hfetch]

theorem State.endCycle_withCc (s : State) (n : Nat) : (s.withCc n).endCycle = s.endCycle.withCc (n + 4) := rfl

/-- R69: a processor step carries any other `cc` along, in each of its three branches. -/
theorem procStep_withCc {line : Bool} {s t : State} (n : Nat) (h : procStep line s = .next t) :
    procStep line (s.withCc n) = .next (t.withCc (n + 4)) := by
  by_cases hmc : s.seq.mc = 0
  · cases hacc : (s.latch line).accepts with
    | true =>
      cases (procStep_accept hmc hacc).symm.trans h
      have hacc' : ((s.withCc n).latch line).accepts = true := by rw [State.latch_withCc]; exact hacc
      rw [procStep_accept (s := s.withCc n) hmc hacc', State.latch_withCc]
      rfl
    | false =>
      obtain ⟨u, hexec, hexec'⟩ := exec_withCc (s.latch line).beginFetch.fetchInstr.1
        (s.latch line).beginFetch.fetchInstr.2.setLength n
      cases (procStep_fetch hmc hacc hexec).symm.trans h
      have hacc' : ((s.withCc n).latch line).accepts = false := by rw [State.latch_withCc]; exact hacc
      have hbegin : ((s.withCc n).latch line).beginFetch = (s.latch line).beginFetch.withCc n := by
        rw [State.latch_withCc]; rfl
      refine procStep_fetch (t := u.withCc n) hmc hacc' ?_
      rw [hbegin, State.fetchInstr_withCc]
      exact hexec'
  · cases (procStep_between line hmc).symm.trans h
    rw [procStep_between line (s := s.withCc n) hmc, State.latch_withCc]
    rfl

/-! ### `cc` over an instruction (40_sequencer R68, R69) -/

/-- R68, R69: one machine cycle further modulo `len_cur` is either the next cycle of the instruction or, from its last
one, the boundary; with the length 0 it is never the boundary. -/
theorem succ_mod_cases {mc len : Nat} (h : len = 0 ∨ mc < len) :
    (mc + 1) % len = 0 ∧ len = mc + 1 ∨ (mc + 1) % len = mc + 1 ∧ (len = 0 ∨ mc + 1 < len) := by
  obtain rfl | hlt := h
  · exact .inr ⟨Nat.mod_zero _, .inl rfl⟩
  · obtain heq | hlt' : mc + 1 = len ∨ mc + 1 < len := by omega
    · exact .inl ⟨heq ▸ Nat.mod_self _, heq.symm⟩
    · exact .inr ⟨Nat.mod_eq_of_lt hlt', .inr hlt'⟩

/-- R69: until the boundary, `cc` grows by 4 for each machine cycle that the instruction has left. From a boundary
(`machine_cycle` 0) that is all of `len_cur`, which the first step sets. -/
theorem runCycles_cc {fuel : Nat} {fired fired' : Bool} {s t : State}
    (hmc : s.seq.lenCur = 0 ∨ s.seq.mc < s.seq.lenCur) (h : runCycles fuel fired s = .next (t, fired')) :
    t.seq.cc + 4 * s.seq.mc = s.seq.cc + 4 * t.seq.lenCur := by
  induction fuel generalizing fired s with
  | zero => cases h
  | succ fuel ih =>
    obtain ⟨u, hstep, hcc, hmcu, hlen⟩ := procStep_seq s.rasterTick.raster.t50 s.rasterTick
    simp only [State.rasterTick_seq] at hcc hmcu hlen
    have hcycle : u.seq.lenCur = 0 ∨ s.seq.mc < u.seq.lenCur := by omega
    simp only [runCycles, step, hstep, State.atBoundary] at h
    obtain ⟨hzero, hlast⟩ | ⟨hnext, hcycle'⟩ := succ_mod_cases hcycle
    · simp only [hmcu, hzero, beq_self_eq_true, if_true] at h
      cases h
      omega
    · rw [hnext] at hmcu
      simp only [hmcu, Nat.add_one_ne_zero, beq_iff_eq, if_false] at h
      have hrest := ih (hmcu ▸ hcycle') h
      omega

theorem executeInstruction_cc {s t : State} {fired : Bool} (h : executeInstruction s = .next (t, fired)) :
    t.seq.cc = s.seq.cc + 4 * t.seq.lenCur := by
  unfold executeInstruction at h
  split at h
  · next hboundary =>
    have hmc : s.seq.mc = 0 := beq_iff_eq.mp hboundary
    have hcc := runCycles_cc (by omega) h
    omega
  · cases h

theorem hostReadCc_atBoundary {s : State} (hmc : s.seq.mc = 0) : hostReadCc s = .next s.seq.cc :=
  if_pos (beq_iff_eq.mpr hmc)

/-- Settles O6: the growth by `procStep_seq` and, summed over an instruction, `runCycles_cc`; the independence by
`procStep_withCc`, since no operation of a step reads or writes `cc`. -/
theorem clockCounterGrowsByFour : Obligations.ClockCounterGrowsByFour := by
  refine ⟨fun line s => ?_, fun s t fired => executeInstruction_cc, fun line s t n => procStep_withCc n,
    fun s => hostReadCc_atBoundary⟩
  obtain ⟨t, hstep, hcc, -⟩ := procStep_seq line s
  exact ⟨t, hstep, hcc⟩

end Sys2Proof.Machine

namespace Sys2Proof.Machine

/-! ### The form of an instruction (30_encoding R51, R52, R57) -/

/-- R57: the decoder puts a 16-bit immediate together again, low byte first. -/
theorem decode_immBytes {mk : Word → Instr} {op : Byte} (hlen : lenOf op = 3)
    (hinstr : ∀ b2 b3, instrOf op b2 b3 = mk (b3 ++ b2)) (v : Word) : decode (op :: immBytes v) = .ok (mk v) [] := by
  simp [decode, immBytes, hlen, hinstr, append_extract]

/-- The form of an instruction, from its opcode byte: the cycle table is read at the encoding's first byte. -/
theorem hasForm_of_encode {i : Instr} {op : Byte} {rest : List Byte} {n : Nat} (hencode : encode i = op :: rest)
    (hdecode : decode (op :: rest) = .ok i []) (hcycles : Config.default.cyclesOf op = n) :
    HasForm i (op :: rest) n := by
  have hop : i.opcode = op := (List.cons.inj hencode).1
  exact ⟨hencode, hdecode, hop ▸ hcycles⟩

/-- The form of an instruction with a 16-bit immediate, which its opcode byte alone selects. -/
theorem hasForm_word {mk : Word → Instr} {op : Byte} {n : Nat} (hencode : ∀ v, encode (mk v) = op :: immBytes v)
    (hlen : lenOf op = 3) (hinstr : ∀ b2 b3, instrOf op b2 b3 = mk (b3 ++ b2))
    (hcycles : Config.default.cyclesOf op = n) (v : Word) :
    HasForm (mk v) [op, v.extractLsb' 0 8, v.extractLsb' 8 8] n :=
  hasForm_of_encode (hencode v) (decode_immBytes hlen hinstr v) hcycles

/-! ### Frames: what each state operation leaves alone (20_memory R38, R39; 45_stack_io_control R147) -/

theorem KeepsControl.trans {s t u : State} (hst : KeepsControl s t) (htu : KeepsControl t u) : KeepsControl s u where
  intr := htu.intr.trans hst.intr
  map := htu.map.trans hst.map
  seq := htu.seq.trans hst.seq
  raster := htu.raster.trans hst.raster
  ports := htu.ports.trans hst.ports
  config := htu.config.trans hst.config

theorem KeepsControl.ramAt {s t : State} (h : KeepsControl s t) (a : Word) : t.ramAt a = s.ramAt a :=
  State.translate_congr h.map h.config a.toNat .ram

theorem OnlyBytes.trans {s t u : State} {g g' : List Nat} (hst : OnlyBytes s t g) (htu : OnlyBytes t u g') :
    OnlyBytes s u (g ++ g') := by
  intro k hk
  obtain ⟨hg, hg'⟩ : k ∉ g ∧ k ∉ g' := by simpa using hk
  exact (htu k hg').trans (hst k hg)

theorem Counted.trans {s t u : State} {r r' w w' : List Nat} (hst : Counted s t r w) (htu : Counted t u r' w') :
    Counted s u (r ++ r') (w ++ w') := by
  intro k
  obtain ⟨hrun, hread, hwrite⟩ := hst k
  obtain ⟨hrun', hread', hwrite'⟩ := htu k
  simp only [List.count_append]
  omega

/-- Two operations in a row touch what each of them touches. -/
theorem Touches.trans {s t u : State} {g r w g' r' w' : List Nat} (hst : Touches s t g r w)
    (htu : Touches t u g' r' w') : Touches s u (g ++ g') (r ++ r') (w ++ w') := by
  obtain ⟨hkeep, hbytes, hcount⟩ := hst
  obtain ⟨hkeep', hbytes', hcount'⟩ := htu
  exact ⟨hkeep.trans hkeep', hbytes.trans hbytes', hcount.trans hcount'⟩

/-- Writing registers, flags, SP and PC is within every frame. -/
theorem touches_cpu (s : State) (regs : Regs) (flags : Flags) (sp pc : Word) :
    Touches s { s with regs := regs, flags := flags, sp := sp, pc := pc } [] [] [] :=
  ⟨⟨rfl, rfl, rfl, rfl, rfl, rfl⟩, fun _ _ => rfl, fun _ => ⟨rfl, rfl, rfl⟩⟩

/-- R147: a notification raises the counter of its own offset by one and no other. -/
theorem CounterArray.lookup_bump (t : CounterArray) (n g : Nat) :
    Sparse.lookup 0 (CounterArray.bump t n) g = Sparse.lookup 0 t g + [n].count g := by
  rw [CounterArray.bump, Sparse.lookup_write]
  by_cases h : g = n
  · simp [h]
  · simp [h, Ne.symm h]

/-- R38, R147: MemRead as an access of kind READ stores nothing and counts one READ. -/
theorem State.memRead_touches (s : State) (a : Word) (space : Space) :
    Touches s (s.memRead a space .read).2 [] [s.translate a.toNat space] [] :=
  ⟨⟨rfl, rfl, rfl, rfl, rfl, rfl⟩, fun _ _ => rfl, fun g => ⟨rfl, CounterArray.lookup_bump s.counts.read _ g,
    rfl⟩⟩

/-- R38, R147: MemWrite stores one byte and counts one WRITE. -/
theorem State.memWrite_touches (s : State) (a : Word) (v : Byte) (space : Space) :
    Touches s (s.memWrite a v space) [s.translate a.toNat space] [] [s.translate a.toNat space] := by
  refine ⟨⟨rfl, rfl, rfl, rfl, rfl, rfl⟩, fun g hg => ?_, fun g => ⟨rfl, rfl, ?_⟩⟩
  · rw [State.byteAt_memWrite, if_neg (by simpa using hg)]
  · exact CounterArray.lookup_bump s.counts.write _ g

/-! ### Registers and pairs written (10_state R12, R13) -/

theorem State.setReg_onlyRegs (s : State) (r : Reg) (v : Byte) : OnlyRegs s (s.setReg r v) [r] :=
  fun _ hq => Regs.set_ne s v (by simpa using hq)

theorem State.setReg_touches (s : State) (r : Reg) (v : Byte) : Touches s (s.setReg r v) [] [] [] :=
  touches_cpu s _ _ _ _

theorem State.setHl_append (s : State) (h l : Byte) :
    s.setHl (h ++ l) = { s with regs := { s.regs with h := h, l := l } } := by
  rw [State.setHl, extract_hi, extract_lo]

theorem State.setDe_append (s : State) (d e : Byte) :
    s.setDe (d ++ e) = { s with regs := { s.regs with d := d, e := e } } := by
  rw [State.setDe, extract_hi, extract_lo]

theorem State.pair_setPair_ne (s : State) {p q : RegPair} (v : Word) (h : q ≠ p) :
    (s.setPair p v).pair q = s.pair q := by
  cases p <;> cases q
  case bc.bc | de.de | hl.hl | sp.sp => exact absurd rfl h
  all_goals rfl

/-- R54: a pair written leaves the other pairs, A, the flags, PC and every frame alone. -/
theorem State.setPair_frame (s : State) (p : RegPair) (v : Word) :
    (∀ q, q ≠ p → (s.setPair p v).pair q = s.pair q) ∧ (s.setPair p v).regs.a = s.regs.a ∧
    (s.setPair p v).flags = s.flags ∧ (s.setPair p v).pc = s.pc ∧ Touches s (s.setPair p v) [] [] [] := by
  refine ⟨fun q => s.pair_setPair_ne v, ?_, s.setPair_flags p v, s.setPair_pc p v, ?_⟩
  · cases p <;> rfl
  · cases p <;> exact touches_cpu s _ _ _ _

end Sys2Proof.Machine

namespace Sys2Proof.Machine

/-! ### XCHG, SPHL, PCHL (41_data_transfer R89; 45_stack_io_control R139; 44_branch R127) -/

/-- R89: each half of HL and DE takes the other's. -/
theorem State.setDe_setHl_exchange (s : State) :
    (s.setHl s.de).setDe s.hl =
      { s with regs := { s.regs with h := s.regs.d, l := s.regs.e, d := s.regs.h, e := s.regs.l } } := by
  rw [State.de, State.hl, State.setHl_append, State.setDe_append]

/-- Settles O40: XCHG by `State.setDe_setHl_exchange`; SPHL and PCHL write HL to one field. -/
theorem hlTransfers : Obligations.HlTransfers :=
  ⟨hasForm_of_encode rfl rfl rfl, hasForm_of_encode rfl rfl rfl, hasForm_of_encode rfl rfl rfl,
    fun s => ⟨⟨_, rfl, s.setDe_setHl_exchange⟩, ⟨_, rfl, rfl⟩, ⟨_, rfl, rfl⟩⟩⟩

/-! ### MOV r,r', MOV r,M, MVI r (41_data_transfer R77, R78, R80) -/

theorem hasForm_movRR (dst src : Reg) : HasForm (.movRR dst src) [0b01#2 ++ dst.code ++ src.code] 2 :=
  hasForm_of_encode rfl (by cases dst <;> cases src <;> rfl) (by cases dst <;> cases src <;> rfl)

theorem hasForm_movRM (dst : Reg) : HasForm (.movRM dst) [0b01#2 ++ dst.code ++ 6#3] 2 :=
  hasForm_of_encode rfl (by cases dst <;> rfl) (by cases dst <;> rfl)

theorem hasForm_mviR (dst : Reg) (imm : Byte) : HasForm (.mviR dst imm) [0b00#2 ++ dst.code ++ 6#3, imm] 2 :=
  hasForm_of_encode rfl (by cases dst <;> rfl) (by cases dst <;> rfl)

/-- Settles O34: each form writes one register of the state that its source leaves; M leaves `s` with one READ counted at
the old HL. -/
theorem moveIntoRegister : Obligations.MoveIntoRegister :=
  ⟨fun dst src s => ⟨hasForm_movRR dst src, _, rfl, Regs.set_self s dst _, s.setReg_onlyRegs dst _, rfl, rfl, rfl,
      s.setReg_touches dst _⟩,
    fun dst s => ⟨hasForm_movRM dst, _, rfl, Regs.set_self s.readM.2 dst _, s.readM.2.setReg_onlyRegs dst _, rfl, rfl,
      rfl, (s.memRead_touches s.hl .ram).trans (s.readM.2.setReg_touches dst _)⟩,
    fun dst imm s => ⟨hasForm_mviR dst imm, _, rfl, Regs.set_self s dst imm, s.setReg_onlyRegs dst imm, rfl, rfl, rfl,
      s.setReg_touches dst imm⟩⟩

/-! ### MOV M,r, MVI M, STA, STAX (41_data_transfer R79, R81, R84, R88) -/

theorem hasForm_movMR (src : Reg) : HasForm (.movMR src) [0b01110#5 ++ src.code] 2 :=
  hasForm_of_encode rfl (by cases src <;> rfl) (by cases src <;> rfl)

theorem hasForm_mviM (imm : Byte) : HasForm (.mviM imm) [0x36#8, imm] 3 :=
  hasForm_of_encode rfl rfl rfl

theorem hasForm_sta (a : Word) : HasForm (.sta a) [0x32#8, a.extractLsb' 0 8, a.extractLsb' 8 8] 4 :=
  hasForm_word (fun _ => rfl) rfl (fun _ _ => rfl) rfl a

theorem hasForm_stax : ∀ e ∈ [(RegPair.bc, 0x02#8), (RegPair.de, 0x12#8)], HasForm (.stax e.1) [e.2] 2 := by
  simp only [List.forall_mem_cons]
  exact ⟨hasForm_of_encode rfl rfl rfl, hasForm_of_encode rfl rfl rfl, List.forall_mem_nil _⟩

/-- R38, R39: one byte stored in RAM space, and nothing else. -/
theorem State.memWrite_ram_spec (s : State) (a : Word) (v : Byte) :
    (s.memWrite a v .ram).byteAt (s.ramAt a) = v ∧ (s.memWrite a v .ram).regs = s.regs ∧
    (s.memWrite a v .ram).flags = s.flags ∧ (s.memWrite a v .ram).sp = s.sp ∧ (s.memWrite a v .ram).pc = s.pc ∧
    Touches s (s.memWrite a v .ram) [s.ramAt a] [] [s.ramAt a] := by
  refine ⟨?_, rfl, rfl, rfl, rfl, s.memWrite_touches a v .ram⟩
  rw [State.byteAt_memWrite]
  exact if_pos rfl

/-- Settles O35: the four are one `MemWrite` each, at HL, at the address or at the pair. -/
theorem storeOneByte : Obligations.StoreOneByte :=
  ⟨fun src s => ⟨hasForm_movMR src, _, rfl, s.memWrite_ram_spec s.hl (s.reg src)⟩,
    fun imm s => ⟨hasForm_mviM imm, _, rfl, s.memWrite_ram_spec s.hl imm⟩,
    fun a s => ⟨hasForm_sta a, _, rfl, s.memWrite_ram_spec a s.regs.a⟩,
    fun e s he => ⟨hasForm_stax e he, _, rfl, s.memWrite_ram_spec (s.pair e.1) s.regs.a⟩⟩

/-! ### LDA, LDAX (41_data_transfer R83, R87) -/

theorem hasForm_lda (a : Word) : HasForm (.lda a) [0x3A#8, a.extractLsb' 0 8, a.extractLsb' 8 8] 4 :=
  hasForm_word (fun _ => rfl) rfl (fun _ _ => rfl) rfl a

theorem hasForm_ldax : ∀ e ∈ [(RegPair.bc, 0x0A#8), (RegPair.de, 0x1A#8)], HasForm (.ldax e.1) [e.2] 2 := by
  simp only [List.forall_mem_cons]
  exact ⟨hasForm_of_encode rfl rfl rfl, hasForm_of_encode rfl rfl rfl, List.forall_mem_nil _⟩

/-- R83, R87: A read from RAM space counts its one READ and stores nothing. -/
theorem State.loadAcc_touches (s : State) (a : Word) :
    Touches s ((s.memRead a .ram .read).2.setReg .a (s.memRead a .ram .read).1) [] [s.ramAt a] [] :=
  (s.memRead_touches a .ram).trans (State.setReg_touches _ .a _)

/-- Settles O36: both are one `MemRead` into A, at the address or at the pair. -/
theorem loadAccumulator : Obligations.LoadAccumulator :=
  ⟨fun a s => ⟨hasForm_lda a, _, rfl, rfl, rfl, rfl, rfl, s.loadAcc_touches a⟩,
    fun e s he => ⟨hasForm_ldax e he, _, rfl, rfl, rfl, rfl, rfl, s.loadAcc_touches (s.pair e.1)⟩⟩

/-! ### LHLD, SHLD (41_data_transfer R85, R86) -/

theorem hasForm_lhld (a : Word) : HasForm (.lhld a) [0x2A#8, a.extractLsb' 0 8, a.extractLsb' 8 8] 5 :=
  hasForm_word (fun _ => rfl) rfl (fun _ _ => rfl) rfl a

theorem hasForm_shld (a : Word) : HasForm (.shld a) [0x22#8, a.extractLsb' 0 8, a.extractLsb' 8 8] 5 :=
  hasForm_word (fun _ => rfl) rfl (fun _ _ => rfl) rfl a

/-- R31, R41: an address and the next one modulo 2^16 have two different RAM offsets, whichever windows they lie in. -/
theorem State.ramAt_ne_succ (s : State) (a : Word) : s.ramAt a ≠ s.ramAt (a + 1) :=
  s.translate_ne (by decide) (by bv_omega)

/-- R85: after H is read, both halves of HL are written from the two bytes. -/
theorem State.loadHl_touches (s : State) (a : Word) (v : Word) :
    Touches s (((s.memRead a .ram .read).2.memRead (a + 1) .ram .read).2.setHl v) []
      [s.ramAt a, s.ramAt (a + 1)] [] := by
  have hlo := s.memRead_touches a .ram
  have hhi := (s.memRead a .ram .read).2.memRead_touches (a + 1) .ram
  exact (hlo.trans hhi).trans (touches_cpu _ _ _ _ _)

/-- Settles O37: LHLD's two reads are the halves of HL; SHLD's second write leaves the first one's byte, since their
offsets differ. -/
theorem loadAndStoreHlDirect : Obligations.LoadAndStoreHlDirect := by
  refine ⟨fun a s => ⟨hasForm_lhld a, _, rfl, ?_, rfl, rfl, rfl, s.loadHl_touches a _⟩,
    fun a s => ⟨hasForm_shld a, _, rfl, ?_⟩⟩
  · rw [State.setHl_append]
    rfl
  · obtain ⟨hlo, -, -, -, -, htouch⟩ := s.memWrite_ram_spec a s.regs.l
    obtain ⟨hhi, hregs, hflags, hsp, hpc, htouch'⟩ := (s.memWrite a s.regs.l .ram).memWrite_ram_spec (a + 1) s.regs.h
    have ⟨hkeep, _, _⟩ := htouch
    rw [hkeep.ramAt] at hhi htouch'
    have ⟨_, hbytes, _⟩ := htouch'
    have hkept := hbytes (s.ramAt a) (by simpa using s.ramAt_ne_succ a)
    exact ⟨hkept.trans hlo, hhi, hregs, hflags, hsp, hpc, htouch.trans htouch'⟩

/-! ### LXI, INX, DCX (41_data_transfer R82; 42_arithmetic R103, R104) -/

theorem hasForm_lxi (p : RegPair) (imm : Word) :
    HasForm (.lxi p imm) [0b00#2 ++ p.code ++ 1#4, imm.extractLsb' 0 8, imm.extractLsb' 8 8] 3 := by
  cases p <;> exact hasForm_word (fun _ => rfl) rfl (fun _ _ => rfl) rfl imm

theorem hasForm_inx (p : RegPair) : HasForm (.inx p) [0b00#2 ++ p.code ++ 3#4] 2 :=
  hasForm_of_encode rfl (by cases p <;> rfl) (by cases p <;> rfl)

theorem hasForm_dcx (p : RegPair) : HasForm (.dcx p) [0b00#2 ++ p.code ++ 11#4] 2 :=
  hasForm_of_encode rfl (by cases p <;> rfl) (by cases p <;> rfl)

/-- Settles O38: each of the three is one `setPair`. -/
theorem pairLoadAndStep : Obligations.PairLoadAndStep := by
  intro p s
  refine ⟨fun imm => ⟨hasForm_lxi p imm, _, rfl, s.pair_setPair p imm, s.setPair_frame p imm⟩,
    ⟨hasForm_inx p, _, rfl, ?_, s.setPair_frame p (s.pair p + 1)⟩,
    ⟨hasForm_dcx p, _, rfl, ?_, s.setPair_frame p (s.pair p - 1)⟩⟩
  · rw [State.pair_setPair]
    exact BitVec.toNat_add _ _
  · rw [State.pair_setPair]
    bv_omega

end Sys2Proof.Machine

namespace Sys2Proof.Machine

/-! ### The ALU primitives in integers (10_state R17; 42_arithmetic R90, R91) -/

/-- R17: S, Z and P as the model computes them are those of the integer. -/
theorem Flags.ofResult_resultFlags (r : Byte) (ac cy : Bool) : ResultFlags (Flags.ofResult r ac cy) r := by
  refine ⟨BitVec.getLsbD_last r, ?_, beq_eq_decide _ _⟩
  simp only [Flags.ofResult, beq_eq_decide, BitVec.toNat_eq, BitVec.toNat_ofNat, Nat.zero_mod]

/-- Bit `i` of the operands and their sum XORed together is the carry into bit `i`. -/
theorem getLsbD_xor_sum (a b : Byte) (c : Bool) {i : Nat} (hi : i < 9) :
    (a.setWidth 9 ^^^ b.setWidth 9 ^^^ (a.setWidth 9 + b.setWidth 9 + (BitVec.ofBool c).setWidth 9)).getLsbD i =
      decide (2 ^ i ≤ a.toNat % 2 ^ i + b.toNat % 2 ^ i + c.toNat) := by
  have hcancel : ∀ x y k : Bool, ((x ^^ y) ^^ (x ^^ (y ^^ k))) = k := by decide
  have ha : (a.setWidth 9).toNat = a.toNat := BitVec.toNat_setWidth_of_le (by decide)
  have hb : (b.setWidth 9).toNat = b.toNat := BitVec.toNat_setWidth_of_le (by decide)
  rw [BitVec.getLsbD_xor, BitVec.getLsbD_xor, BitVec.getLsbD_add_add_bool hi, hcancel, BitVec.carry, ha, hb]

/-- R90: the 9-bit sum cut to 8 bits, with the carries into bits 4 and 8. -/
theorem add8_isSum (a b : Byte) (c : Bool) : IsSum a b c (add8 a b c).r (add8 a b c).flags := by
  refine ⟨?_, ?_, getLsbD_xor_sum a b c (by decide), Flags.ofResult_resultFlags _ _ _⟩
  · simp [add8]
  · have hcarry := getLsbD_xor_sum a b c (i := 8) (by decide)
    rwa [Nat.mod_eq_of_lt a.isLt, Nat.mod_eq_of_lt b.isLt] at hcarry

/-- R91: subtraction is the addition of the complement, which is 255 minus the byte, with the borrow inverted. -/
theorem sub8_isDifference (a b : Byte) (c : Bool) : IsDifference a b c (sub8 a b c).r (sub8 a b c).flags := by
  obtain ⟨hr, hcy, hac, hresult⟩ := add8_isSum a (~~~b) (!c)
  have hnot : (~~~b).toNat = 255 - b.toNat := BitVec.toNat_not
  have hborrow : (!c).toNat = 1 - c.toNat := by cases c <;> rfl
  have hb := b.isLt
  have hc := c.toNat_le
  rw [hnot, hborrow] at hr hcy hac
  refine ⟨hr.trans (by omega), ?_, hac.trans (decide_eq_decide.mpr (by omega)), hresult⟩
  simp only [sub8, hcy, ← decide_not, decide_eq_decide]
  omega

/-! ### The accumulator operations (42_arithmetic R93 to R100) -/

/-- R53: decoding an operand's code gives the operand. -/
theorem operandOf_code (o : Operand) : operandOf o.code = o := by
  cases o with
  | reg r => cases r <;> rfl
  | m => rfl

/-- R53: code 6 is M's alone. -/
theorem Operand.code_eq_six (o : Operand) : o.code = 6#3 ↔ o = .m := by
  cases o with
  | reg r => cases r <;> decide
  | m => decide

/-- R52, R72: the fields, the length and the machine cycles of an opcode in rows 8x to Bx. -/
theorem aluOpcode_fields : ∀ row code : BitVec 3,
    opQuarter (0b10#2 ++ row ++ code) = 2#2 ∧ opMid (0b10#2 ++ row ++ code) = row ∧
    opLow (0b10#2 ++ row ++ code) = code ∧ lenOf (0b10#2 ++ row ++ code) = 1 ∧
    Config.default.cyclesOf (0b10#2 ++ row ++ code) = if code = 6#3 then 2 else 1 := by
  decide

/-- R56, R58: the form of an accumulator operation on `r[sss]`, from its row of the opcode map. -/
theorem hasForm_aluRow {mk : Operand → Instr} (row : BitVec 3)
    (hencode : ∀ src, encode (mk src) = [0b10#2 ++ row ++ src.code])
    (hinstr : ∀ op, opMid op = row → instrOfAlu op = mk (operandOf (opLow op))) (src : Operand) :
    HasForm (mk src) [0b10#2 ++ row ++ src.code] (if src = .m then 2 else 1) := by
  obtain ⟨hquarter, hmid, hlow, hlen, hcycles⟩ := aluOpcode_fields row src.code
  refine hasForm_of_encode (hencode src) ?_ ?_
  · simp [decode, hlen, instrOf, hquarter, hinstr _ hmid, hlow, operandOf_code]
  · simp only [hcycles, Operand.code_eq_six]

theorem hasForm_add (src : Operand) : HasForm (.add src) [0b10000#5 ++ src.code] (if src = .m then 2 else 1) :=
  hasForm_aluRow 0#3 (fun _ => rfl) (fun _ hmid => by simp [instrOfAlu, hmid]) src

theorem hasForm_adc (src : Operand) : HasForm (.adc src) [0b10001#5 ++ src.code] (if src = .m then 2 else 1) :=
  hasForm_aluRow 1#3 (fun _ => rfl) (fun _ hmid => by simp [instrOfAlu, hmid]) src

theorem hasForm_sub (src : Operand) : HasForm (.sub src) [0b10010#5 ++ src.code] (if src = .m then 2 else 1) :=
  hasForm_aluRow 2#3 (fun _ => rfl) (fun _ hmid => by simp [instrOfAlu, hmid]) src

theorem hasForm_sbb (src : Operand) : HasForm (.sbb src) [0b10011#5 ++ src.code] (if src = .m then 2 else 1) :=
  hasForm_aluRow 3#3 (fun _ => rfl) (fun _ hmid => by simp [instrOfAlu, hmid]) src

/-- Writing A and the flags leaves the other registers, SP, PC and every frame alone. -/
theorem State.setAcc_frame (s : State) (t : AluResult) :
    OnlyRegs s (s.setAcc t) [.a] ∧ (s.setAcc t).sp = s.sp ∧ (s.setAcc t).pc = s.pc ∧
    Touches s (s.setAcc t) [] [] [] :=
  ⟨s.setReg_onlyRegs .a t.r, rfl, rfl, touches_cpu s _ _ _ _⟩

/-- R53, R147: reading an operand counts one READ for M and nothing for a register. -/
theorem State.afterOperand_touches (s : State) (o : Operand) :
    Touches s (s.afterOperand o) [] (s.operandReads o) [] := by
  cases o with
  | reg r => exact touches_cpu s s.regs s.flags s.sp s.pc
  | m => exact s.memRead_touches s.hl .ram

theorem accOp_frame (op : Byte → Byte → AluResult) (src : Operand) (s : State) :
    OnlyRegs s (accOp op src s) [.a] ∧ (accOp op src s).sp = s.sp ∧ (accOp op src s).pc = s.pc ∧
    Touches s (accOp op src s) [] (s.operandReads src) [] := by
  obtain ⟨hregs, hsp, hpc, htouch⟩ := (s.afterOperand src).setAcc_frame (op s.regs.a (s.operandValue src))
  refine ⟨fun q hq => (hregs q hq).trans ?_, hsp.trans (s.afterOperand_sp src), hpc.trans (s.afterOperand_pc src), ?_⟩
  · cases src <;> rfl
  · rw [accOp]
    simpa using (s.afterOperand_touches src).trans htouch

/-- Settles O41: each of the four is `accOp` of `add8` or `sub8`, without or with CY. -/
theorem addSubtractOperand : Obligations.AddSubtractOperand :=
  fun src s => ⟨⟨hasForm_add src, _, rfl, add8_isSum _ _ _, accOp_frame _ src s⟩,
    ⟨hasForm_adc src, _, rfl, add8_isSum _ _ _, accOp_frame _ src s⟩,
    ⟨hasForm_sub src, _, rfl, sub8_isDifference _ _ _, accOp_frame _ src s⟩,
    ⟨hasForm_sbb src, _, rfl, sub8_isDifference _ _ _, accOp_frame _ src s⟩⟩

/-- Settles O42: each of the four is `setAcc` of `add8` or `sub8`, without or with CY. -/
theorem addSubtractImmediate : Obligations.AddSubtractImmediate :=
  fun v s => ⟨⟨hasForm_of_encode rfl rfl rfl, _, rfl, add8_isSum _ v _, s.setAcc_frame _⟩,
    ⟨hasForm_of_encode rfl rfl rfl, _, rfl, add8_isSum _ v _, s.setAcc_frame _⟩,
    ⟨hasForm_of_encode rfl rfl rfl, _, rfl, sub8_isDifference _ v _, s.setAcc_frame _⟩,
    ⟨hasForm_of_encode rfl rfl rfl, _, rfl, sub8_isDifference _ v _, s.setAcc_frame _⟩⟩

/-! ### INR, DCR (42_arithmetic R101, R102) -/

/-- R101, R102: the ALU result of INR (`up`) or DCR. -/
def inrDcr8 (up : Bool) (v : Byte) (cy : Bool) : AluResult := if up then inr8 v cy else dcr8 v cy

/-- R101, R102: one meaning for both directions. -/
theorem exec_inrDcr (up : Bool) (dst : Operand) (s : State) :
    exec (if up then .inr dst else .dcr dst) s = .next (stepOp (fun v => inrDcr8 up v s.flags.cy) dst s) := by
  cases up <;> rfl

theorem hasForm_inrDcr_reg (up : Bool) (r : Reg) :
    HasForm (if up then .inr (.reg r) else .dcr (.reg r)) [0b00#2 ++ r.code ++ if up then 4#3 else 5#3] 2 := by
  cases up
  · exact hasForm_of_encode rfl (by cases r <;> rfl) (by cases r <;> rfl)
  · exact hasForm_of_encode rfl (by cases r <;> rfl) (by cases r <;> rfl)

theorem hasForm_inrDcr_m (up : Bool) :
    HasForm (if up then .inr .m else .dcr .m) [if up then 0x34#8 else 0x35#8] 3 := by
  cases up
  · exact hasForm_of_encode rfl rfl rfl
  · exact hasForm_of_encode rfl rfl rfl

/-- The low digit of a byte, compared as an integer. -/
theorem extractLsb'_digit_beq (x : Byte) (d : BitVec 4) : (x.extractLsb' 0 4 == d) = decide (x.toNat % 16 = d.toNat) := by
  simp [beq_eq_decide, BitVec.toNat_eq]

/-- R101, R102: for either direction and what it adds modulo 2^8, the result and its flags in integers. -/
theorem inrDcr8_spec : ∀ e ∈ [(true, 1), (false, 255)], ∀ (v : Byte) (cy : Bool),
    (inrDcr8 e.1 v cy).r.toNat = (v.toNat + e.2) % 256 ∧
    (inrDcr8 e.1 v cy).flags.ac = (if e.1 then decide ((inrDcr8 e.1 v cy).r.toNat % 16 = 0)
      else decide ((inrDcr8 e.1 v cy).r.toNat % 16 ≠ 15)) ∧
    ResultFlags (inrDcr8 e.1 v cy).flags (inrDcr8 e.1 v cy).r ∧ (inrDcr8 e.1 v cy).flags.cy = cy := by
  simp only [List.forall_mem_cons]
  refine ⟨fun v cy => ⟨BitVec.toNat_add v 1#8, extractLsb'_digit_beq _ _, Flags.ofResult_resultFlags _ _ _, rfl⟩,
    fun v cy => ⟨?_, ?_, Flags.ofResult_resultFlags _ _ _, rfl⟩, List.forall_mem_nil _⟩
  · have hsub := BitVec.toNat_sub v 1#8
    rw [Nat.add_comm] at hsub
    exact hsub
  · exact (congrArg not (extractLsb'_digit_beq _ _)).trans (decide_not).symm

/-- R101, R102: the register form writes the one register and the flags. -/
theorem stepOp_reg (op : Byte → AluResult) (r : Reg) (s : State) :
    (stepOp op (.reg r) s).reg r = (op (s.reg r)).r ∧ (stepOp op (.reg r) s).flags = (op (s.reg r)).flags ∧
    OnlyRegs s (stepOp op (.reg r) s) [r] ∧ (stepOp op (.reg r) s).sp = s.sp ∧ (stepOp op (.reg r) s).pc = s.pc ∧
    Touches s (stepOp op (.reg r) s) [] [] [] :=
  ⟨Regs.set_self _ r _, rfl, s.setReg_onlyRegs r _, rfl, rfl, touches_cpu s _ _ _ _⟩

/-- R101, R102: the memory form reads and writes the byte at HL and writes the flags. -/
theorem stepOp_m (op : Byte → AluResult) (s : State) :
    (stepOp op .m s).byteAt (s.ramAt s.hl) = (op (s.byteAt (s.ramAt s.hl))).r ∧
    (stepOp op .m s).flags = (op (s.byteAt (s.ramAt s.hl))).flags ∧ (stepOp op .m s).regs = s.regs ∧
    (stepOp op .m s).sp = s.sp ∧ (stepOp op .m s).pc = s.pc ∧
    Touches s (stepOp op .m s) [s.ramAt s.hl] [s.ramAt s.hl] [s.ramAt s.hl] := by
  have hread := s.memRead_touches s.hl .ram
  have hflags := hread.trans (touches_cpu s.readM.2 s.regs (op (s.byteAt (s.ramAt s.hl))).flags s.sp s.pc)
  obtain ⟨hbyte, -, -, -, -, hwrite⟩ := (s.readM.2.setFlagsOnly (op (s.byteAt (s.ramAt s.hl)))).memWrite_ram_spec s.hl
    (op (s.byteAt (s.ramAt s.hl))).r
  exact ⟨hbyte, rfl, rfl, rfl, rfl, hflags.trans hwrite⟩

/-- Settles O45: the operand's rule (`stepOp_reg`, `stepOp_m`) carries the result and flags of `inrDcr8_spec`. -/
theorem incrementDecrement : Obligations.IncrementDecrement := by
  refine fun s e he => ⟨fun r => ⟨hasForm_inrDcr_reg e.1 r, _, exec_inrDcr e.1 (.reg r) s, ?_⟩,
    hasForm_inrDcr_m e.1, _, exec_inrDcr e.1 .m s, ?_⟩
  · obtain ⟨hreg, hflags, honly, hframe⟩ := stepOp_reg (fun v => inrDcr8 e.1 v s.flags.cy) r s
    obtain ⟨hval, hac, hresult, hcy⟩ := inrDcr8_spec e he (s.reg r) s.flags.cy
    rw [hreg, hflags]
    exact ⟨hval, honly, hac, hresult, hcy, hframe⟩
  · obtain ⟨hbyte, hflags, hregs, hframe⟩ := stepOp_m (fun v => inrDcr8 e.1 v s.flags.cy) s
    obtain ⟨hval, hac, hresult, hcy⟩ := inrDcr8_spec e he (s.byteAt (s.ramAt s.hl)) s.flags.cy
    rw [hbyte, hflags]
    exact ⟨hval, hregs, hac, hresult, hcy, hframe⟩

/-! ### DAD (42_arithmetic R105) -/

theorem hasForm_dad (p : RegPair) : HasForm (.dad p) [0b00#2 ++ p.code ++ 9#4] 3 :=
  hasForm_of_encode rfl (by cases p <;> rfl) (by cases p <;> rfl)

theorem State.setHl_onlyRegs (s : State) (v : Word) : OnlyRegs s (s.setHl v) [.h, .l] := by
  intro q hq
  cases q
  case h | l => simp at hq
  all_goals rfl

/-- R105: the 17-bit sum of two words loses nothing. -/
theorem toNat_add17 (x y : Word) : (x.setWidth 17 + y.setWidth 17 : BitVec 17).toNat = x.toNat + y.toNat := by
  bv_omega

/-- Settles O39: HL takes the low 16 bits of the 17-bit sum, CY its top bit. -/
theorem doubleAdd : Obligations.DoubleAdd := by
  refine fun p s => ⟨hasForm_dad p, _, rfl, ?_, s.setHl_onlyRegs _, ?_, rfl, rfl, touches_cpu s _ _ _ _⟩
  · refine (congrArg BitVec.toNat (s.hl_setHl _)).trans ?_
    rw [BitVec.toNat_setWidth, toNat_add17]
  · have hcarry := BitVec.getLsbD_last (s.hl.setWidth 17 + (s.pair p).setWidth 17)
    rw [toNat_add17] at hcarry
    exact congrArg (fun cy => { s.flags with cy := cy }) hcarry

end Sys2Proof.Machine

namespace Sys2Proof.Machine

/-! ### CMP, CPI (43_logical R111, R115) -/

theorem hasForm_cmp (src : Operand) : HasForm (.cmp src) [0b10111#5 ++ src.code] (if src = .m then 2 else 1) :=
  hasForm_aluRow 7#3 (fun _ => rfl) (fun _ hmid => by simp [instrOfAlu, hmid]) src

/-- R111: a difference of two bytes is 0 modulo 2^8 exactly when they are equal, and borrows exactly when the first is
less. -/
theorem IsDifference.compares {a v r : Byte} {f : Flags} (h : IsDifference a v false r f) :
    f.z = decide (a = v) ∧ f.cy = decide (a.toNat < v.toNat) := by
  obtain ⟨hr, hcy, -, -, hz, -⟩ := h
  have ha := a.isLt
  have hv := v.isLt
  rw [Bool.toNat_false] at hr
  refine ⟨hz.trans (decide_eq_decide.mpr ?_), hcy⟩
  rw [hr, BitVec.toNat_eq]
  omega

/-- R111, R115: the flags that CMP and CPI set. -/
theorem sub8_compares (a v : Byte) :
    (∃ r, IsDifference a v false r (sub8 a v false).flags) ∧ (sub8 a v false).flags.z = decide (a = v) ∧
    (sub8 a v false).flags.cy = decide (a.toNat < v.toNat) :=
  ⟨⟨_, sub8_isDifference a v false⟩, (sub8_isDifference a v false).compares⟩

/-- Writing the flags alone is within every frame. -/
theorem State.setFlagsOnly_touches (s : State) (t : AluResult) : Touches s (s.setFlagsOnly t) [] [] [] :=
  touches_cpu s _ _ _ _

/-- R53, R111: an operand read for its flags alone touches what the reading touches. -/
theorem State.afterOperand_setFlagsOnly_touches (s : State) (src : Operand) (t : AluResult) :
    Touches s ((s.afterOperand src).setFlagsOnly t) [] (s.operandReads src) [] := by
  simpa using (s.afterOperand_touches src).trans ((s.afterOperand src).setFlagsOnly_touches t)

/-- Settles O44: both set the flags of `sub8` alone (`sub8_compares`), CMP after its operand is read. -/
theorem compareSetsFlagsOnly : Obligations.CompareSetsFlagsOnly := by
  refine ⟨fun src s => ⟨hasForm_cmp src, _, rfl, ?_⟩, fun v s => ⟨hasForm_of_encode rfl rfl rfl, _, rfl, ?_⟩⟩
  · obtain ⟨hdiff, hz, hcy⟩ := sub8_compares s.regs.a (s.operandValue src)
    exact ⟨hdiff, hz, hcy, s.afterOperand_regs src, s.afterOperand_sp src, s.afterOperand_pc src,
      s.afterOperand_setFlagsOnly_touches src _⟩
  · obtain ⟨hdiff, hz, hcy⟩ := sub8_compares s.regs.a v
    exact ⟨hdiff, hz, hcy, rfl, rfl, rfl, s.setFlagsOnly_touches _⟩

/-! ### RLC, RRC, RAL, RAR (43_logical R116 to R119) -/

/-- R116, R118: the byte moved left with a bit entering on the right. -/
theorem rotLeftCy_toNat (a : Byte) (cy : Bool) : (rotLeftCy a cy).1.toNat = a.toNat * 2 % 256 + cy.toNat := by
  rw [rotLeftCy, BitVec.append_ofBool, BitVec.toNat_concat, BitVec.extractLsb'_toNat, Nat.shiftRight_zero]
  omega

/-- R117, R119: the byte moved right with a bit entering on the left. -/
theorem rotRightCy_toNat (a : Byte) (cy : Bool) : (rotRightCy a cy).1.toNat = a.toNat / 2 + cy.toNat * 128 := by
  have hlow := (a.extractLsb' 1 7).isLt
  rw [rotRightCy, BitVec.toNat_append, ← Nat.shiftLeft_add_eq_or_of_lt hlow, BitVec.toNat_ofBool,
    BitVec.extractLsb'_toNat, Nat.shiftLeft_eq, Nat.shiftRight_eq_div_pow]
  omega

/-- R116: RLC is RAL with the leaving bit as the entering one. -/
theorem rotLeft_toNat (a : Byte) : (rotLeft a).1.toNat = a.toNat * 2 % 256 + a.toNat / 128 := by
  have hbit : (a.getLsbD 7).toNat = a.toNat / 128 % 2 := Nat.toNat_testBit a.toNat 7
  rw [Nat.mod_eq_of_lt (by omega)] at hbit
  exact hbit ▸ rotLeftCy_toNat a (a.getLsbD 7)

/-- R117: RRC is RAR with the leaving bit as the entering one. -/
theorem rotRight_toNat (a : Byte) : (rotRight a).1.toNat = a.toNat / 2 + a.toNat % 2 * 128 := by
  have hbit : (a.getLsbD 0).toNat = a.toNat / 1 % 2 := Nat.toNat_testBit a.toNat 0
  rw [Nat.div_one] at hbit
  exact hbit ▸ rotRightCy_toNat a (a.getLsbD 0)

/-- R116 to R119: a rotate writes A and CY alone. -/
theorem rotated_spec (s : State) {t : Byte × Bool} {n : Nat} {cy : Bool} (hbyte : t.1.toNat = n) (hcy : t.2 = cy) :
    (rotated t s).regs.a.toNat = n ∧ OnlyRegs s (rotated t s) [.a] ∧
    (rotated t s).flags = { s.flags with cy := cy } ∧ (rotated t s).sp = s.sp ∧ (rotated t s).pc = s.pc ∧
    Touches s (rotated t s) [] [] [] := by
  subst hbyte hcy
  exact ⟨rfl, s.setReg_onlyRegs .a t.1, rfl, rfl, rfl, touches_cpu s _ _ _ _⟩

/-- Settles O46: the rotated byte and the leaving bit in integers, the rest by `rotated_spec`. -/
theorem rotatesMoveOneBit : Obligations.RotatesMoveOneBit := by
  intro s
  have hleft : s.regs.a.getLsbD 7 = decide (128 ≤ s.regs.a.toNat) := BitVec.getLsbD_last s.regs.a
  have hright : s.regs.a.getLsbD 0 = decide (s.regs.a.toNat % 2 = 1) := Nat.testBit_zero s.regs.a.toNat
  simp only [List.forall_mem_cons]
  exact ⟨⟨hasForm_of_encode rfl rfl rfl, _, rfl, rotated_spec s (rotLeft_toNat _) hleft⟩,
    ⟨hasForm_of_encode rfl rfl rfl, _, rfl, rotated_spec s (rotRight_toNat _) hright⟩,
    ⟨hasForm_of_encode rfl rfl rfl, _, rfl, rotated_spec s (rotLeftCy_toNat _ _) hleft⟩,
    ⟨hasForm_of_encode rfl rfl rfl, _, rfl, rotated_spec s (rotRightCy_toNat _ _) hright⟩, List.forall_mem_nil _⟩

/-! ### CMA, STC, CMC (43_logical R120, R121, R122) -/

/-- Settles O47: CMA's complement is the XOR with eight ones; STC and CMC write CY alone. -/
theorem complementAndCarry : Obligations.ComplementAndCarry := by
  refine ⟨hasForm_of_encode rfl rfl rfl, hasForm_of_encode rfl rfl rfl, hasForm_of_encode rfl rfl rfl,
    fun s => ⟨⟨_, rfl, ?_⟩, ⟨_, rfl, rfl⟩, ⟨_, rfl, rfl⟩⟩⟩
  have hnot : ~~~s.regs.a = s.regs.a ^^^ 0xFF#8 := BitVec.xor_allOnes.symm
  exact congrArg (s.setReg .a) hnot

end Sys2Proof.Machine

namespace Sys2Proof.Machine

/-! ### The opcode of a decoded instruction (30_encoding R52, R58) -/

theorem jumpOn_opcode (cond : Cond) (target target' : Word) :
    (jumpOn cond target).opcode = (jumpOn cond target').opcode := by
  cases cond <;> rfl

theorem callOn_opcode (cond : Cond) (target target' : Word) :
    (callOn cond target).opcode = (callOn cond target').opcode := by
  cases cond <;> rfl

theorem instrOfRow0_opcode_immediates (op b2 b3 : Byte) :
    (instrOfRow0 op b2 b3).opcode = (instrOfRow0 op 0#8 0#8).opcode := by
  unfold instrOfRow0
  split
  · rfl
  · split <;> rfl
  · split <;> rfl
  · rfl
  · rfl
  · rfl
  · split <;> rfl
  · rfl

theorem instrOfRow3_opcode_immediates (op b2 b3 : Byte) :
    (instrOfRow3 op b2 b3).opcode = (instrOfRow3 op 0#8 0#8).opcode := by
  unfold instrOfRow3
  split
  · rfl
  · rfl
  · exact jumpOn_opcode _ _ _
  · split <;> rfl
  · exact callOn_opcode _ _ _
  · split <;> rfl
  · split <;> rfl
  · rfl

/-- R52: the immediate bytes have no part in the opcode. -/
theorem instrOf_opcode_immediates (op b2 b3 : Byte) : (instrOf op b2 b3).opcode = (instrOf op 0#8 0#8).opcode := by
  unfold instrOf
  split
  · exact instrOfRow0_opcode_immediates op b2 b3
  · rfl
  · rfl
  · exact instrOfRow3_opcode_immediates op b2 b3

theorem instrOf_zero_opcode : ∀ op : Byte, (instrOf op 0#8 0#8).opcode = op := by decide

theorem instrOf_opcode (op b2 b3 : Byte) : (instrOf op b2 b3).opcode = op :=
  (instrOf_opcode_immediates op b2 b3).trans (instrOf_zero_opcode op)

/-- R58: EI has the one opcode 0xFB. -/
theorem instrOf_eq_ei (op b2 b3 : Byte) : instrOf op b2 b3 = .ei ↔ op = 0xFB#8 := by
  constructor
  · intro h
    exact (instrOf_opcode op b2 b3).symm.trans (congrArg Instr.opcode h)
  · rintro rfl
    rfl

/-! ### What an instruction does to IFF, EIP and the RUN counters (60_exceptions R162, 40_sequencer R66) -/

@[simp] theorem State.afterOperand_run (s : State) (o : Operand) : (s.afterOperand o).counts.run = s.counts.run := by
  cases o <;> rfl

@[simp] theorem State.writeOperand_run (s : State) (o : Operand) (v : Byte) :
    (s.writeOperand o v).counts.run = s.counts.run := by
  cases o <;> rfl

@[simp] theorem jumpIf_intr (cond : Cond) (target : Word) (s : State) : (jumpIf cond target s).intr = s.intr := by
  unfold jumpIf; split <;> rfl

@[simp] theorem callIf_intr (cond : Cond) (target : Word) (s : State) : (callIf cond target s).intr = s.intr := by
  unfold callIf; split <;> rfl

@[simp] theorem returnIf_intr (cond : Cond) (s : State) : (returnIf cond s).intr = s.intr := by
  unfold returnIf; split <;> rfl

@[simp] theorem jumpIf_run (cond : Cond) (target : Word) (s : State) :
    (jumpIf cond target s).counts.run = s.counts.run := by
  unfold jumpIf; split <;> rfl

@[simp] theorem callIf_run (cond : Cond) (target : Word) (s : State) :
    (callIf cond target s).counts.run = s.counts.run := by
  unfold callIf; split <;> rfl

@[simp] theorem returnIf_run (cond : Cond) (s : State) : (returnIf cond s).counts.run = s.counts.run := by
  unfold returnIf; split <;> rfl

/-- R66, R147: an instruction counts READ and WRITE only; RUN is the fetch's. -/
theorem exec_keeps_run {i : Instr} {s t : State} (h : exec i s = .next t) : t.counts.run = s.counts.run := by
  cases i
  all_goals
    cases h
    simp [accOp, stepOp, rotated, jumpTo, callTo, Counters.bump]

/-- Only EI, DI and HLT write the interrupt flip-flops. -/
theorem exec_keeps_intr {i : Instr} {s t : State} (h : exec i s = .next t) (hei : i ≠ .ei) (hdi : i ≠ .di)
    (hhlt : i ≠ .hlt) : t.intr = s.intr := by
  cases i
  case ei => exact absurd rfl hei
  case di => exact absurd rfl hdi
  case hlt => exact absurd rfl hhlt
  all_goals
    cases h
    simp [accOp, stepOp, rotated, jumpTo, callTo]

/-- R142, R162: no instruction writes IFF, and the only one that writes EIP is EI, which sets it. -/
theorem exec_iff_eip {i : Instr} {s t : State} (h : exec i s = .next t) :
    t.intr.iff = s.intr.iff ∧ (t.intr.eip = true ↔ i = .ei ∨ s.intr.eip = true) := by
  cases i
  case ei =>
    cases h
    exact ⟨rfl, iff_of_true rfl (.inl rfl)⟩
  case di | hlt =>
    cases h
    simp
  all_goals
    rw [exec_keeps_intr h nofun nofun nofun]
    simp

/-! ### The instruction at PC, fetched and run (40_sequencer R64, R66) -/

/-- R66, R147: one fetch counts one RUN at PC. -/
theorem State.fetch_runCount (s : State) (g : Nat) : s.fetch.2.runCount g = s.runCount g + [s.ramAt s.pc].count g :=
  CounterArray.lookup_bump s.counts.run _ g

theorem State.fetch_ramAt (s : State) (a : Word) : s.fetch.2.ramAt a = s.ramAt a := rfl

/-- The fetch of the opcode is a fetch whose byte goes to IR. -/
theorem State.fetchOpcode_runCount (s : State) (g : Nat) :
    s.fetchOpcode.runCount g = s.runCount g + [s.ramAt s.pc].count g :=
  s.fetch_runCount g

theorem State.fetchOpcode_ramAt (s : State) (a : Word) : s.fetchOpcode.ramAt a = s.ramAt a := rfl

/-- R66, R147: fetching an instruction counts one RUN for each of its `LEN[op]` bytes. -/
theorem State.fetchInstr_runCount (s : State) (g : Nat) :
    s.fetchInstr.2.runCount g = s.runCount g +
      ([s.ramAt s.pc, s.ramAt (s.pc + 1), s.ramAt (s.pc + 2)].take (lenOf (s.read s.pc.toNat .ram))).count g := by
  have hpc : s.pc + 1#16 + 1#16 = s.pc + 2#16 := by bv_omega
  unfold State.fetchInstr
  simp only [State.fetchOpcode_seq]
  rcases lenOf_cases (s.read s.pc.toNat .ram) with h | h | h <;>
    simp [h, State.fetch_runCount, State.fetch_ramAt, State.fetchOpcode_runCount, State.fetchOpcode_ramAt, hpc,
      List.count_cons]
  · omega
  · omega

/-- R66: whatever the instruction's length, its opcode at PC is counted. -/
theorem State.fetchInstr_runCount_pc (s : State) :
    s.runCount (s.ramAt s.pc) + 1 ≤ s.fetchInstr.2.runCount (s.ramAt s.pc) := by
  rw [State.fetchInstr_runCount]
  rcases lenOf_cases (s.read s.pc.toNat .ram) with h | h | h <;> simp [h]

theorem State.fetchInstr_eq_ei (s : State) : s.fetchInstr.1 = .ei ↔ s.fetchInstr.2.seq.ir = 0xFB#8 := by
  obtain ⟨hinstr, hseq, -⟩ := s.fetchInstr_spec
  rw [hinstr, hseq]
  exact instrOf_eq_ei _ _ _

/-- R64, R66: the instruction at PC, fetched and run whole: IR is its opcode, IFF is kept, EIP is kept but that EI sets it,
and RUN is counted at PC. -/
theorem exec_fetchInstr_spec (s : State) :
    ∃ t, exec s.fetchInstr.1 s.fetchInstr.2.setLength = .next t ∧ t.seq.ir = s.read s.pc.toNat .ram ∧
      t.intr.iff = s.intr.iff ∧ (t.intr.eip = true ↔ t.seq.ir = 0xFB#8 ∨ s.intr.eip = true) ∧
      s.runCount (s.ramAt s.pc) + 1 ≤ t.runCount (s.ramAt s.pc) := by
  obtain ⟨-, hseq, -, -, -, -, -, hintr, -⟩ := s.fetchInstr_spec
  obtain ⟨t, hexec, -, htseq, -, -⟩ := exec_keeps s.fetchInstr.1 s.fetchInstr.2.setLength
  obtain ⟨hiff, heip⟩ := exec_iff_eip hexec
  have hcounts : t.counts.run = s.fetchInstr.2.counts.run := by simpa using exec_keeps_run hexec
  have hrun : ∀ g, t.runCount g = s.fetchInstr.2.runCount g := fun g => congrArg (Sparse.lookup 0 · g) hcounts
  have hir : t.seq.ir = s.fetchInstr.2.seq.ir := by simp [htseq]
  refine ⟨t, hexec, hir.trans (congrArg Sequencer.ir hseq), hiff.trans (congrArg Interrupts.iff hintr), ?_, ?_⟩
  · rw [heip, State.fetchInstr_eq_ei, hir, State.setLength_intr, hintr]
  · rw [hrun]
    exact s.fetchInstr_runCount_pc

/-! ### The two boundary steps (60_exceptions R160, R161, R162) -/

theorem State.latch_intr (s : State) (line : Bool) :
    (s.latch line).intr =
      { s.intr with iff := s.intr.iff || (line && (s.intr.inte || s.config.irqLatch == .ungated)) } := by
  unfold State.latch
  split
  · next h => simp [h]
  · next h => simp [h]

/-- R159, R160: the latch moves neither INTE nor EIP, so the acceptance is of the state before it, but for IFF. -/
theorem State.latch_accepts (s : State) (line : Bool) :
    (s.latch line).accepts = true ↔
      (s.latch line).intr.iff = true ∧ s.intr.inte = true ∧ s.intr.eip = false := by
  simp [State.accepts, State.latch_intr, and_assoc]

theorem State.latch_fetchAddr (s : State) (line : Bool) : (s.latch line).fetchAddr = s.fetchAddr := by
  simp [State.fetchAddr, State.latch_intr]

/-- R161: the accepting step forces RST 7 into IR, clears INTE and fetches nothing. -/
theorem procStep_accept_spec {line : Bool} {s : State} (hmc : s.seq.mc = 0) (hacc : (s.latch line).accepts = true) :
    ∃ t, procStep line s = .next t ∧ t.seq.ir = rst7Opcode ∧ t.intr.inte = false ∧
      ∀ g, t.runCount g = s.runCount g :=
  ⟨_, procStep_accept hmc hacc, by simp, by simp, fun g => by simp [State.runCount, Counters.bump]⟩

/-- R160, R162: the step of a boundary that does not accept fetches from `fetchAddr`, keeps the latched request, and
leaves EIP set only by an EI. -/
theorem procStep_fetch_spec {line : Bool} {s : State} (hmc : s.seq.mc = 0) (hacc : (s.latch line).accepts = false) :
    ∃ t, procStep line s = .next t ∧ t.seq.ir = s.read s.fetchAddr.toNat .ram ∧
      t.intr.iff = (s.latch line).intr.iff ∧ (t.intr.eip = true ↔ t.seq.ir = 0xFB#8) ∧
      s.runCount (s.ramAt s.fetchAddr) + 1 ≤ t.runCount (s.ramAt s.fetchAddr) := by
  obtain ⟨t, hexec, hir, hiff, heip, hrun⟩ := exec_fetchInstr_spec (s.latch line).beginFetch
  have hpc : (s.latch line).beginFetch.pc = s.fetchAddr := s.latch_fetchAddr line
  have hread : ∀ a, (s.latch line).beginFetch.read a .ram = s.read a .ram := fun a =>
    State.read_congr (by simp) (by simp) (by simp) a .ram
  have hram : ∀ a, (s.latch line).beginFetch.ramAt a = s.ramAt a := fun a =>
    State.translate_congr (by simp) (by simp) a.toNat .ram
  have hcount : ∀ g, (s.latch line).beginFetch.runCount g = s.runCount g := fun g => by simp [State.runCount]
  rw [hpc] at hir hrun
  rw [hread] at hir
  rw [hram, hcount] at hrun
  exact ⟨t.endCycle, procStep_fetch hmc hacc hexec, hir, hiff, by simpa using heip, hrun⟩

/-! ### Acceptance and the EI delay (60_exceptions R160, R162) -/

/-- Settles O10: at a boundary by the step of the branch that `accepts` chooses; between boundaries only the latch and the
counting happen. -/
theorem interruptAcceptedExactlyWhenEnabled : Obligations.InterruptAcceptedExactlyWhenEnabled := by
  refine ⟨fun line s hmc => ⟨fun henabled => ?_, fun hdisabled => ?_⟩, fun line s hmc => ?_⟩
  · exact procStep_accept_spec hmc ((s.latch_accepts line).mpr henabled)
  · have hacc : (s.latch line).accepts = false := Bool.eq_false_iff.mpr (mt (s.latch_accepts line).mp hdisabled)
    obtain ⟨t, hstep, hir, -, heip, hrun⟩ := procStep_fetch_spec hmc hacc
    exact ⟨t, hstep, hir, heip, hrun⟩
  · exact ⟨_, procStep_between line hmc, by simp, by simp [State.latch_intr], by simp [State.latch_intr]⟩

/-- Settles O12: with EIP = 1 the latched state does not accept, whatever the line, and the fetching step keeps the latched
request; with EIP = 0 a pending request stays pending through the latch and is accepted. -/
theorem eiDefersOneInstruction : Obligations.EiDefersOneInstruction := by
  refine ⟨fun s => ⟨_, rfl, rfl, rfl⟩, fun line s hmc heip => ?_, fun line s hmc heip hiff hinte => ?_⟩
  · have hacc : (s.latch line).accepts = false := by simp [State.accepts, State.latch_intr, heip]
    obtain ⟨t, hstep, hir, hiff, hei, -⟩ := procStep_fetch_spec hmc hacc
    refine ⟨t, hstep, hir, fun hne => Bool.eq_false_iff.mpr (mt hei.mp hne), fun hinte hreq => ?_⟩
    rw [hiff, State.latch_intr]
    obtain hline | hpending := hreq
    · simp [hline, hinte]
    · simp [hpending]
  · have hacc : (s.latch line).accepts = true :=
      (s.latch_accepts line).mpr ⟨by simp [State.latch_intr, hiff], hinte, heip⟩
    obtain ⟨t, hstep, hir, hint, -⟩ := procStep_accept_spec hmc hacc
    exact ⟨t, hstep, hir, hint⟩

end Sys2Proof.Machine

namespace Sys2Proof.Machine

/-! ### What one processor step can do (40_sequencer R64, R65, R75) -/

/-- R64: a processor step that answers `t` counts between two boundaries, accepts an interrupt, or runs the
instruction it fetches. -/
theorem procStep_cases {line : Bool} {s t : State} (h : procStep line s = .next t) :
    (s.seq.mc ≠ 0 ∧ t = (s.latch line).endCycle) ∨
    (s.seq.mc = 0 ∧ (s.latch line).accepts = true ∧ t = (s.latch line).acceptInterrupt.setLength.endCycle) ∨
    (s.seq.mc = 0 ∧ (s.latch line).accepts = false ∧
      ∃ u, exec (s.latch line).beginFetch.fetchInstr.1 (s.latch line).beginFetch.fetchInstr.2.setLength = .next u ∧
        t = u.endCycle) := by
  by_cases hmc : s.seq.mc = 0
  · cases hacc : (s.latch line).accepts with
    | true =>
      cases (procStep_accept hmc hacc).symm.trans h
      exact .inr (.inl ⟨hmc, rfl, rfl⟩)
    | false =>
      obtain ⟨u, hexec, -⟩ := exec_keeps (s.latch line).beginFetch.fetchInstr.1
        (s.latch line).beginFetch.fetchInstr.2.setLength
      cases (procStep_fetch hmc hacc hexec).symm.trans h
      exact .inr (.inr ⟨hmc, rfl, u, hexec, rfl⟩)
  · cases (procStep_between line hmc).symm.trans h
    exact .inl ⟨hmc, rfl⟩

/-! ### Translation stays in the image (20_memory R36) -/

/-- R34, R36: an offset in the main bank, or in a bank within 0..NUM_EXT_BANKS, lies in the image. -/
theorem offset_lt_imageSize {c : Config} {a g bank : Nat} (ha : a < 0x10000) (hbank : bank ≤ c.numExtBanks)
    (hg : g = a ∨ g = a + bank * bankSize) : g < c.imageSize := by
  simp only [Config.imageSize, bankSize] at *
  omega

/-- R36: with the bank indices in range every translation lies in the image. -/
theorem State.translate_lt {s : State} (h : s.MappingOk) (addr : Nat) (space : Space) :
    s.translate addr space < s.config.imageSize := by
  obtain ⟨hstack, hram⟩ := h
  have haddr : addr % 0x10000 < 0x10000 := Nat.mod_lt _ (by decide)
  cases space with
  | ram => exact offset_lt_imageSize haddr hram (ramOffset_cases s.config s.map _)
  | stack => exact offset_lt_imageSize haddr hstack (stackOffset_cases s.map _)
  | global => exact Nat.mod_lt _ (by simp [Config.imageSize, bankSize])

/-! ### Memory and counters stay in canonical form and in the image (10_state R26, R28) -/

/-- R22, R26, R28: the part of the invariant that an access must keep: the image, the counters and the bank indices. -/
def State.StorageOk (s : State) : Prop := s.MemoryOk ∧ s.CountsOk ∧ s.MappingOk

theorem State.StorageOk.congr {s t : State} (h : s.StorageOk) (himg : t.img = s.img) (hcounts : t.counts = s.counts)
    (hmap : t.map = s.map) (hconfig : t.config = s.config) : t.StorageOk := by
  simpa [State.StorageOk, State.MemoryOk, State.CountsOk, State.MappingOk, himg, hcounts, hmap, hconfig] using h

/-- R26, R147: a notification at an offset of the image keeps a counter array in order. -/
theorem CounterArray.Ok.bump {c : Config} {t : CounterArray} (h : CounterArray.Ok c t) {g : Nat}
    (hg : g < c.imageSize) : CounterArray.Ok c (t.bump g) :=
  ⟨Sparse.wf_write _ _ _ _ h.1, Sparse.bound_write _ _ _ _ _ h.2 hg⟩

theorem State.StorageOk.notify {s : State} (h : s.StorageOk) (addr : Nat) (kind : AccessKind) (space : Space) :
    (s.notify addr kind space).StorageOk := by
  obtain ⟨hmem, ⟨hrun, hread, hwrite⟩, hmap⟩ := h
  have hoffset := State.translate_lt hmap addr space
  cases kind with
  | run => exact ⟨hmem, ⟨hrun.bump hoffset, hread, hwrite⟩, hmap⟩
  | read => exact ⟨hmem, ⟨hrun, hread.bump hoffset, hwrite⟩, hmap⟩
  | write => exact ⟨hmem, ⟨hrun, hread, hwrite.bump hoffset⟩, hmap⟩

theorem State.StorageOk.write {s : State} (h : s.StorageOk) (addr : Nat) (v : Byte) (space : Space) :
    (s.write addr v space).StorageOk := by
  obtain ⟨⟨hwf, hbound⟩, hcounts, hmap⟩ := h
  exact ⟨⟨State.wf_write hwf addr v space, Sparse.bound_write _ _ _ _ _ hbound (State.translate_lt hmap addr space)⟩,
    hcounts, hmap⟩

theorem State.StorageOk.memRead {s : State} (h : s.StorageOk) (addr : Word) (space : Space) (kind : AccessKind) :
    (s.memRead addr space kind).2.StorageOk :=
  h.notify _ _ _

theorem State.StorageOk.memWrite {s : State} (h : s.StorageOk) (addr : Word) (v : Byte) (space : Space) :
    (s.memWrite addr v space).StorageOk :=
  (h.write _ _ _).notify _ _ _

/-- Registers, flags, SP and PC have no part in it. -/
theorem State.StorageOk.cpu {s : State} (h : s.StorageOk) (regs : Regs) (flags : Flags) (sp pc : Word) :
    State.StorageOk { s with regs := regs, flags := flags, sp := sp, pc := pc } := h

theorem State.StorageOk.fetch {s : State} (h : s.StorageOk) : s.fetch.2.StorageOk :=
  (h.memRead s.pc .ram .run).cpu _ _ _ _

theorem State.StorageOk.push16 {s : State} (h : s.StorageOk) (v : Word) : (s.push16 v).StorageOk := by
  have hhi := (h.cpu s.regs s.flags (s.sp - 1) s.pc).memWrite (s.sp - 1) (v.extractLsb' 8 8) .stack
  exact (hhi.cpu s.regs s.flags (s.sp - 1 - 1) s.pc).memWrite (s.sp - 1 - 1) (v.extractLsb' 0 8) .stack

theorem State.StorageOk.pop16 {s : State} (h : s.StorageOk) : s.pop16.2.StorageOk := by
  have hlo := (h.memRead s.sp .stack .read).cpu s.regs s.flags (s.sp + 1) s.pc
  exact (hlo.memRead (s.sp + 1) .stack .read).cpu _ _ _ _

theorem State.StorageOk.setPair {s : State} (h : s.StorageOk) (p : RegPair) (v : Word) : (s.setPair p v).StorageOk :=
  h.congr (by simp) (by simp) (by simp) (by simp)

theorem State.StorageOk.setStackPair {s : State} (h : s.StorageOk) (p : StackPair) (v : Word) :
    (s.setStackPair p v).StorageOk :=
  h.congr (by simp) (by simp) (by simp) (by simp)

theorem State.StorageOk.afterOperand {s : State} (h : s.StorageOk) (o : Operand) : (s.afterOperand o).StorageOk := by
  cases o with
  | reg r => exact h
  | m => exact h.memRead _ _ _

theorem State.StorageOk.writeOperand {s : State} (h : s.StorageOk) (o : Operand) (v : Byte) :
    (s.writeOperand o v).StorageOk := by
  cases o with
  | reg r => exact h
  | m => exact h.memWrite _ _ _

theorem State.StorageOk.accOp {s : State} (h : s.StorageOk) (op : Byte → Byte → AluResult) (src : Operand) :
    (accOp op src s).StorageOk :=
  (h.afterOperand src).cpu _ _ _ _

theorem State.StorageOk.stepOp {s : State} (h : s.StorageOk) (op : Byte → AluResult) (dst : Operand) :
    (stepOp op dst s).StorageOk :=
  State.StorageOk.writeOperand ((h.afterOperand dst).cpu _ _ _ _) dst _

theorem State.StorageOk.jumpIf {s : State} (h : s.StorageOk) (cond : Cond) (target : Word) :
    (jumpIf cond target s).StorageOk := by
  unfold Machine.jumpIf
  split
  · exact h
  · exact h

theorem State.StorageOk.callTo {s : State} (h : s.StorageOk) (target : Word) : (callTo target s).StorageOk :=
  h.push16 s.pc

theorem State.StorageOk.restart {s : State} (h : s.StorageOk) (n : BitVec 3) : (s.restart n).StorageOk :=
  h.push16 s.pc

theorem State.StorageOk.returnToCaller {s : State} (h : s.StorageOk) : s.returnToCaller.StorageOk :=
  h.pop16

theorem State.StorageOk.callIf {s : State} (h : s.StorageOk) (cond : Cond) (target : Word) :
    (callIf cond target s).StorageOk := by
  unfold Machine.callIf
  split
  · exact h.callTo target
  · exact h

theorem State.StorageOk.returnIf {s : State} (h : s.StorageOk) (cond : Cond) : (returnIf cond s).StorageOk := by
  unfold Machine.returnIf
  split
  · exact h.returnToCaller
  · exact h

/-- Every instruction is made of the accesses above, and of writes to registers, flags, flip-flops and ports. -/
theorem exec_keeps_storage {i : Instr} {s t : State} (h : exec i s = .next t) (hs : s.StorageOk) : t.StorageOk := by
  cases i <;> cases h
  case movRM | lda | ldax => exact hs.memRead _ _ _
  case movMR | mviM | sta | stax => exact hs.memWrite _ _ _
  case lhld => exact (hs.memRead _ _ _).memRead _ _ _
  case shld => exact (hs.memWrite _ _ _).memWrite _ _ _
  case lxi | inx | dcx => exact hs.setPair _ _
  case add | adc | sub | sbb | ana | xra | ora => exact hs.accOp _ _
  case inr | dcr => exact hs.stepOp _ _
  case cmp => exact hs.afterOperand _
  case jnz | jz | jnc | jc | jpo | jpe | jp | jm => exact hs.jumpIf _ _
  case cnz | cz | cnc | cc | cpo | cpe | cp | cm => exact hs.callIf _ _
  case rnz | rz | rnc | rc | rpo | rpe | rp | rm => exact hs.returnIf _
  case call | callU => exact hs.callTo _
  case rst => exact hs.restart _
  case push => exact hs.push16 _
  case ret | retU => exact hs.returnToCaller
  case pop => exact hs.pop16.setStackPair _ _
  case xthl =>
    have hread := (hs.memRead s.sp .stack .read).memRead (s.sp + 1) .stack .read
    have hwrite := (hread.memWrite (s.sp + 1) s.regs.h .stack).memWrite s.sp s.regs.l .stack
    exact hwrite.congr rfl rfl rfl rfl
  all_goals exact hs

theorem State.StorageOk.latch {s : State} (h : s.StorageOk) (line : Bool) : (s.latch line).StorageOk :=
  h.congr (by simp) (by simp) (by simp) (by simp)

/-- R66: fetching an instruction is one, two or three fetches. -/
theorem State.StorageOk.fetchInstr {s : State} (h : s.StorageOk) : s.fetchInstr.2.StorageOk := by
  have hop : s.fetchOpcode.StorageOk := h.fetch
  unfold State.fetchInstr
  dsimp only
  split
  · exact hop
  · exact hop.fetch
  · exact hop.fetch.fetch

theorem procStep_keeps_storage {line : Bool} {s t : State} (h : procStep line s = .next t) (hs : s.StorageOk) :
    t.StorageOk := by
  have hlatch := hs.latch line
  obtain ⟨-, rfl⟩ | ⟨-, -, rfl⟩ | ⟨-, -, u, hexec, rfl⟩ := procStep_cases h
  · exact hlatch
  · exact hlatch.push16 (s.latch line).pc
  · have hfetch : (s.latch line).beginFetch.fetchInstr.2.StorageOk := State.StorageOk.fetchInstr hlatch
    exact exec_keeps_storage (t := u) hexec hfetch

/-! ### The mapping, the parameters and the raster timer are no business of a processor step -/

theorem procStep_keeps {line : Bool} {s t : State} (h : procStep line s = .next t) :
    t.map = s.map ∧ t.raster = s.raster ∧ t.config = s.config := by
  obtain ⟨-, rfl⟩ | ⟨-, -, rfl⟩ | ⟨-, -, u, hexec, rfl⟩ := procStep_cases h
  · simp
  · simp
  · obtain ⟨u', hexec', hmap, -, hraster, hconfig⟩ := exec_keeps (s.latch line).beginFetch.fetchInstr.1
      (s.latch line).beginFetch.fetchInstr.2.setLength
    cases hexec.symm.trans hexec'
    obtain ⟨-, -, -, -, -, -, -, -, hfmap, hfraster, -, -, hfconfig⟩ := (s.latch line).beginFetch.fetchInstr_spec
    simp [hmap, hraster, hconfig, hfmap, hfraster, hfconfig]

/-! ### `machine_cycle` stays below `len_cur`, and that within `CYCLES[IR]` (10_state R23) -/

/-- R72, R76: every length of the table is in 1..6. -/
theorem Config.cyclesOf_mem_range {c : Config} (h : c.Legal) (op : Byte) :
    1 ≤ c.cyclesOf op ∧ c.cyclesOf op ≤ 6 := by
  obtain ⟨-, -, -, -, -, ⟨-, hcycles⟩, -⟩ := h
  exact getD_one_mem_range hcycles op.toNat

/-- R71, R76: the length of an instruction not taken is at least 1 and at most the length taken. -/
theorem Config.cyclesNTOf_mem_range {c : Config} (h : c.Legal) (op : Byte) :
    1 ≤ c.cyclesNTOf op ∧ c.cyclesNTOf op ≤ c.cyclesOf op := by
  obtain ⟨-, -, -, -, -, ⟨hlen, -⟩, ⟨hlenNT, hzip⟩, -⟩ := h
  have hop := op.isLt
  have hmem : (c.cyclesNT[op.toNat], c.cycles[op.toNat]) ∈ c.cyclesNT.zip c.cycles :=
    List.mem_iff_getElem.mpr ⟨op.toNat, by simp; omega, List.getElem_zip⟩
  simpa [Config.cyclesNTOf, Config.cyclesOf, hlen, hlenNT, hop] using hzip _ hmem

/-- R71: an instruction has at least one machine cycle and at most `CYCLES[op]`. -/
theorem instrCycles_mem_range {c : Config} (h : c.Legal) (f : Flags) (op : Byte) :
    1 ≤ instrCycles c f op ∧ instrCycles c f op ≤ c.cyclesOf op := by
  unfold instrCycles
  split
  · exact Config.cyclesNTOf_mem_range h op
  · exact ⟨(Config.cyclesOf_mem_range h op).1, le_rfl⟩

theorem procStep_keeps_sequencer {line : Bool} {s t : State} (h : procStep line s = .next t) (hlegal : s.config.Legal)
    (hseq : s.SequencerOk) : t.SequencerOk := by
  obtain ⟨-, rfl⟩ | ⟨-, -, rfl⟩ | ⟨-, -, u, hexec, rfl⟩ := procStep_cases h
  · obtain ⟨hlt, hle⟩ := hseq
    exact ⟨by simpa using Nat.mod_lt _ (by omega), by simpa using hle⟩
  · have hrange := instrCycles_mem_range hlegal s.flags rst7Opcode
    exact ⟨by simpa using Nat.mod_lt _ (by omega), by simpa using hrange.2⟩
  · obtain ⟨u', hexec', -, hseq', -, hconfig⟩ := exec_keeps (s.latch line).beginFetch.fetchInstr.1
      (s.latch line).beginFetch.fetchInstr.2.setLength
    cases hexec.symm.trans hexec'
    obtain ⟨-, hfseq, -, -, -, hfflags, -, -, -, -, -, -, hfconfig⟩ := (s.latch line).beginFetch.fetchInstr_spec
    have hrange := instrCycles_mem_range hlegal s.flags (s.latch line).beginFetch.fetchInstr.2.seq.ir
    constructor
    · simpa [hseq', hfflags, hfconfig] using Nat.mod_lt _ (by omega)
    · simpa [hseq', hfflags, hconfig, hfconfig] using hrange.2

/-! ### The raster position stays in the frame (10_state R25, 60_exceptions R167) -/

theorem Raster.next_inFrame {c : Config} (h : c.Legal) {r : Raster} (hpixel : r.pixel < c.framePixels)
    (hline : r.line < c.frameLines) :
    (r.next c).pixel < c.framePixels ∧ (r.next c).line < c.frameLines := by
  obtain ⟨-, -, -, ⟨hpixels, hlines, -, hquantum⟩, -⟩ := h
  have hle := Nat.le_of_dvd hpixels hquantum
  simp only [Raster.next]
  split
  · exact ⟨by omega, Nat.mod_lt _ hlines⟩
  · exact ⟨by omega, hline⟩

theorem Raster.next_t50 (c : Config) (r : Raster) :
    (r.next c).t50 = true ↔ (r.next c).pixel = 0 ∧ (r.next c).line = 0 := by
  simp [Raster.next]

/-- Settles O3: the tick keeps the raster's part, and the processor step the storage's and the sequencer's, while
mapping, parameters and raster position stand still in it. -/
theorem stepKeepsInvariant : Obligations.StepKeepsInvariant := by
  intro s t hinv hstep
  have hstorage : t.StorageOk :=
    procStep_keeps_storage hstep (s := s.rasterTick) ⟨hinv.memory, hinv.counts, hinv.mapping⟩
  have hseq : t.SequencerOk := procStep_keeps_sequencer hstep hinv.config hinv.sequencer
  obtain ⟨hmem, hcounts, hmap⟩ := hstorage
  obtain ⟨-, hraster, hconfig⟩ := procStep_keeps hstep
  obtain ⟨hpixel, hline, -⟩ := hinv.raster
  obtain ⟨hpixel', hline'⟩ := Raster.next_inFrame hinv.config hpixel hline
  have hrasterOk : t.RasterOk := by
    rw [State.RasterOk, hraster, hconfig]
    exact ⟨hpixel', hline', (Raster.next_t50 _ _).mp⟩
  exact ⟨hconfig ▸ hinv.config, hmem, hcounts, hmap, hseq, hrasterOk⟩

/-- Settles O8: `procStep_keeps` for either line, and for a step after its tick. -/
theorem stepLeavesMappingAlone : Obligations.StepLeavesMappingAlone := by
  refine ⟨fun line s t h => ?_, fun s t h => ?_⟩
  · obtain ⟨hmap, -, hconfig⟩ := procStep_keeps h
    exact ⟨hmap, hconfig⟩
  · obtain ⟨hmap, -, hconfig⟩ := procStep_keeps h
    exact ⟨hmap, hconfig⟩

/-- Settles O24: `State.translate_lt`. -/
theorem translationStaysInImage : Obligations.TranslationStaysInImage :=
  fun _ addr space h => State.translate_lt h addr space

end Sys2Proof.Machine

namespace Sys2Proof.Machine

/-! ### Decoding the encoding (30_encoding R51 to R58) -/

/-- R51: the opcode fixes how many bytes are read, so bytes after them only come back as the rest. -/
theorem decode_append {bytes : List Byte} {i : Instr} {left : List Byte} (h : decode bytes = .ok i left)
    (rest : List Byte) : decode (bytes ++ rest) = .ok i (left ++ rest) := by
  rcases bytes with _ | ⟨op, tail⟩
  · cases h
  · rcases lenOf_cases op with hlen | hlen | hlen
    · simp only [decode, hlen, List.cons_append] at h ⊢
      cases h
      rfl
    · rcases tail with _ | ⟨b2, tail⟩
      · simp [decode, hlen] at h
      · simp only [decode, hlen, List.cons_append] at h ⊢
        cases h
        rfl
    · rcases tail with _ | ⟨b2, _ | ⟨b3, tail⟩⟩
      · simp [decode, hlen] at h
      · simp [decode, hlen] at h
      · simp only [decode, hlen, List.cons_append] at h ⊢
        cases h
        rfl

theorem HasForm.decode_encode {i : Instr} {bytes : List Byte} {n : Nat} (h : HasForm i bytes n) :
    decode (encode i) = .ok i [] := by
  obtain ⟨hencode, hdecode, -⟩ := h
  rw [hencode, hdecode]

theorem hasForm_ana (src : Operand) : HasForm (.ana src) [0b10100#5 ++ src.code] (if src = .m then 2 else 1) :=
  hasForm_aluRow 4#3 (fun _ => rfl) (fun _ hmid => by simp [instrOfAlu, hmid]) src

theorem hasForm_xra (src : Operand) : HasForm (.xra src) [0b10101#5 ++ src.code] (if src = .m then 2 else 1) :=
  hasForm_aluRow 5#3 (fun _ => rfl) (fun _ hmid => by simp [instrOfAlu, hmid]) src

theorem hasForm_ora (src : Operand) : HasForm (.ora src) [0b10110#5 ++ src.code] (if src = .m then 2 else 1) :=
  hasForm_aluRow 6#3 (fun _ => rfl) (fun _ hmid => by simp [instrOfAlu, hmid]) src

theorem hasForm_rst (n : BitVec 3) : HasForm (.rst n) [0b11#2 ++ n ++ 7#3] 4 :=
  hasForm_of_encode rfl (by revert n; decide) (by revert n; decide)

theorem hasForm_push (p : StackPair) : HasForm (.push p) [0b11#2 ++ p.code ++ 5#4] 4 :=
  hasForm_of_encode rfl (by cases p <;> rfl) (by cases p <;> rfl)

theorem hasForm_pop (p : StackPair) : HasForm (.pop p) [0b11#2 ++ p.code ++ 1#4] 3 :=
  hasForm_of_encode rfl (by cases p <;> rfl) (by cases p <;> rfl)

theorem hasForm_nopU (dup : BitVec 3) (hdup : dup ≠ 0#3) : HasForm (.nopU dup) [0b00#2 ++ dup ++ 0#3] 1 :=
  hasForm_of_encode rfl (by revert dup; decide) (by revert dup; decide)

theorem hasForm_callU (dup : BitVec 2) (hdup : dup ≠ 0#2) (a : Word) :
    HasForm (.callU dup a) [0b11#2 ++ dup ++ 0b1101#4, a.extractLsb' 0 8, a.extractLsb' 8 8] 6 :=
  hasForm_word (fun _ => rfl) (by revert dup; decide) (instrOf_callU dup hdup) (by revert dup; decide) a

/-- R51 to R58: by the instruction's form where it has an operand in the opcode, else by the opcode byte. -/
theorem decode_encode (i : Instr) (hi : i.wellFormed = true) : decode (encode i) = .ok i [] := by
  cases i
  case movRR dst src => exact (hasForm_movRR dst src).decode_encode
  case movRM dst => exact (hasForm_movRM dst).decode_encode
  case mviR dst imm => exact (hasForm_mviR dst imm).decode_encode
  case movMR src => exact (hasForm_movMR src).decode_encode
  case lxi p imm => exact (hasForm_lxi p imm).decode_encode
  case add src => exact (hasForm_add src).decode_encode
  case adc src => exact (hasForm_adc src).decode_encode
  case sub src => exact (hasForm_sub src).decode_encode
  case sbb src => exact (hasForm_sbb src).decode_encode
  case ana src => exact (hasForm_ana src).decode_encode
  case xra src => exact (hasForm_xra src).decode_encode
  case ora src => exact (hasForm_ora src).decode_encode
  case cmp src => exact (hasForm_cmp src).decode_encode
  case inr dst | dcr dst =>
    cases dst with
    | reg r => cases r <;> rfl
    | m => rfl
  case inx p => exact (hasForm_inx p).decode_encode
  case dcx p => exact (hasForm_dcx p).decode_encode
  case dad p => exact (hasForm_dad p).decode_encode
  case ldax p | stax p =>
    cases p
    case hl | sp => cases hi
    all_goals rfl
  case push p => exact (hasForm_push p).decode_encode
  case pop p => exact (hasForm_pop p).decode_encode
  case rst n => exact (hasForm_rst n).decode_encode
  case nopU dup => exact (hasForm_nopU dup (bne_iff_ne.mp hi)).decode_encode
  case callU dup a => exact (hasForm_callU dup (bne_iff_ne.mp hi) a).decode_encode
  case lda | sta | lhld | shld | jmp | jmpU | jnz | jz | jnc | jc | jpo | jpe | jp | jm | call | cnz | cz | cnc | cc |
      cpo | cpe | cp | cm =>
    simp only [encode, Instr.opcode, Instr.operandBytes]
    exact decode_immBytes rfl (fun _ _ => rfl) _
  case mviM | adi | aci | sui | sbi | ani | xri | ori | cpi | inp | out =>
    simp only [encode, Instr.opcode, Instr.operandBytes]
    rfl
  all_goals rfl

/-- Settles O57: `decode_encode`, and `decode_append` for the bytes after it. -/
theorem decodeOfEncode : Obligations.DecodeOfEncode :=
  fun i rest hi => decode_append (decode_encode i hi) rest

/-! ### Encoding what was decoded (30_encoding R51, R60) -/

theorem immBytes_append (hi lo : Byte) : immBytes (hi ++ lo) = [lo, hi] := by
  rw [immBytes, extract_hi, extract_lo]

theorem jumpOn_operandBytes (cond : Cond) (target : Word) : (jumpOn cond target).operandBytes = immBytes target := by
  cases cond <;> rfl

theorem callOn_operandBytes (cond : Cond) (target : Word) : (callOn cond target).operandBytes = immBytes target := by
  cases cond <;> rfl

theorem returnOn_operandBytes (cond : Cond) : (returnOn cond).operandBytes = [] := by
  cases cond <;> rfl

/-- R52, R58, rows 0x to 3x: the operand bytes are the immediate bytes read, as many as the opcode asks for. -/
theorem instrOfRow0_operandBytes (op b2 b3 : Byte) :
    (instrOfRow0 op b2 b3).operandBytes = [b2, b3].take (instrOfRow0 op 0#8 0#8).operandBytes.length := by
  unfold instrOfRow0
  split
  · split <;> rfl
  · split
    · rfl
    · exact immBytes_append b3 b2
  · split
    case h_1 | h_2 | h_3 | h_4 => rfl
    all_goals exact immBytes_append b3 b2
  · split <;> rfl
  · rfl
  · rfl
  · split <;> rfl
  · split <;> rfl

theorem instrOfMov_operandBytes (op : Byte) : (instrOfMov op).operandBytes = [] := by
  unfold instrOfMov
  split <;> rfl

theorem instrOfAlu_operandBytes (op : Byte) : (instrOfAlu op).operandBytes = [] := by
  unfold instrOfAlu
  dsimp only
  split <;> rfl

/-- R52, R58, rows Cx to Fx: the same. -/
theorem instrOfRow3_operandBytes (op b2 b3 : Byte) :
    (instrOfRow3 op b2 b3).operandBytes = [b2, b3].take (instrOfRow3 op 0#8 0#8).operandBytes.length := by
  unfold instrOfRow3
  split
  · rw [returnOn_operandBytes]; rfl
  · split <;> rfl
  · rw [jumpOn_operandBytes, jumpOn_operandBytes]; exact immBytes_append b3 b2
  · split
    case h_1 | h_2 => exact immBytes_append b3 b2
    all_goals rfl
  · rw [callOn_operandBytes, callOn_operandBytes]; exact immBytes_append b3 b2
  · split
    case h_5 => rfl
    all_goals exact immBytes_append b3 b2
  · split <;> rfl
  · rfl

theorem instrOf_operandBytes_immediates (op b2 b3 : Byte) :
    (instrOf op b2 b3).operandBytes = [b2, b3].take (instrOf op 0#8 0#8).operandBytes.length := by
  unfold instrOf
  split
  · exact instrOfRow0_operandBytes op b2 b3
  · rw [instrOfMov_operandBytes]; rfl
  · rw [instrOfAlu_operandBytes]; rfl
  · exact instrOfRow3_operandBytes op b2 b3

theorem instrOf_zero_operandBytes_length : ∀ op : Byte, (instrOf op 0#8 0#8).operandBytes.length = lenOf op - 1 := by
  decide

/-- R51, R52: encoding the decoded instruction gives the `LEN[op]` bytes read. -/
theorem encode_instrOf (op b2 b3 : Byte) : encode (instrOf op b2 b3) = [op, b2, b3].take (lenOf op) := by
  obtain ⟨n, hn⟩ : ∃ n, lenOf op = n + 1 := Nat.exists_eq_add_one.mpr (by have := lenOf_cases op; omega)
  rw [encode, instrOf_opcode, instrOf_operandBytes_immediates, instrOf_zero_operandBytes_length, hn]
  rfl

/-- Settles O58: the bytes read are an encoding and the bytes left, so that the round trip of O57 decodes them. -/
theorem encodeOfDecode : Obligations.EncodeOfDecode := by
  intro op b2 b3
  have hencode := encode_instrOf op b2 b3
  have hwf := instrOf_wellFormed op b2 b3
  refine ⟨hwf, hencode, ?_⟩
  have hround := decodeOfEncode (instrOf op b2 b3) ([op, b2, b3].drop (lenOf op)) hwf
  rwa [hencode, List.take_append_drop] at hround

/-! ### The one length table (30_encoding R51; 40_sequencer R66; 46_disassembler R151) -/

theorem encode_instrOf_length (op b2 b3 : Byte) : (encode (instrOf op b2 b3)).length = lenOf op := by
  rw [encode_instrOf, List.length_take]
  rcases lenOf_cases op with h | h | h <;> rw [h] <;> rfl

/-- R151: the disassembler's length is `LEN` of the byte it reads. -/
theorem decodeOne_length (s : State) (a : Word) : (decodeOne s a.toNat).2 = lenOf (s.read a.toNat .ram) := by
  unfold decodeOne
  rw [BitVec.ofNat_toNat, BitVec.setWidth_eq]
  dsimp only
  rcases lenOf_cases (s.read a.toNat .ram) with h | h | h <;> simp only [h]

/-- Settles O22: all three are `lenOf` of the byte at PC. -/
theorem disassemblerAgreesWithFetch : Obligations.DisassemblerAgreesWithFetch := by
  refine ⟨fun op => ?_, fun s => ?_⟩
  · have := lenOf_cases op
    omega
  · obtain ⟨hinstr, -⟩ := s.fetchInstr_spec
    rw [decodeOne_length, hinstr, encode_instrOf_length]
    exact ⟨rfl, s.fetchInstr_pc, rfl⟩

/-- Settles O59: each word as the opcode map has it. -/
theorem mapWordsDecode : Obligations.MapWordsDecode :=
  ⟨rfl, rfl, rfl, rfl, rfl, rfl, rfl, rfl, rfl⟩

end Sys2Proof.Machine

namespace Sys2Proof.Machine

/-! ### The windows of RAM space (20_memory R34) -/

theorem ramOffset_low (c : Config) (m : Mapping) {a : Nat} (h : a < 0x8000) : ramOffset c m a = a :=
  if_pos (.inl h)

/-- R34: with no mode bit set, no window is on. -/
theorem ramOffset_modeZero (c : Config) {m : Mapping} (h : m.ramMode = 0#8) (a : Nat) : ramOffset c m a = a :=
  if_pos (.inr h)

/-- R34: above 0x8000 and with some mode bit set, the windows are tried in turn. -/
theorem ramOffset_window (c : Config) {m : Mapping} {a : Nat} (ha : 0x8000 ≤ a) (hmode : m.ramMode ≠ 0#8) :
    ramOffset c m a =
      if m.ramMode.getLsbD c.bitA000 ∧ 0xA000 ≤ a ∧ a ≤ 0xDFFF then a + m.ramBank * bankSize
      else if m.ramMode.getLsbD c.bit8000 ∧ 0x8000 ≤ a ∧ a ≤ 0x9FFF then a + m.ramBank * bankSize
      else if m.ramMode.getLsbD c.bitE000 ∧ 0xE000 ≤ a ∧ a ≤ 0xFFFF then a + m.ramBank * bankSize
      else a :=
  if_neg (by simp [hmode]; omega)

theorem ramOffset_8000 (c : Config) (m : Mapping) {a : Nat} (hlo : 0x8000 ≤ a) (hhi : a ≤ 0x9FFF) :
    ramOffset c m a = a + if m.ramMode.getLsbD c.bit8000 then m.ramBank * 0x10000 else 0 := by
  by_cases hmode : m.ramMode = 0#8
  · simp [ramOffset_modeZero c hmode, hmode]
  · rw [ramOffset_window c hlo hmode, if_neg (by omega)]
    by_cases hbit : m.ramMode.getLsbD c.bit8000 = true
    · rw [if_pos ⟨hbit, hlo, hhi⟩, if_pos hbit, bankSize]
    · rw [if_neg (hbit ·.1), if_neg (by omega), if_neg hbit, Nat.add_zero]

theorem ramOffset_A000 (c : Config) (m : Mapping) {a : Nat} (hlo : 0xA000 ≤ a) (hhi : a ≤ 0xDFFF) :
    ramOffset c m a = a + if m.ramMode.getLsbD c.bitA000 then m.ramBank * 0x10000 else 0 := by
  by_cases hmode : m.ramMode = 0#8
  · simp [ramOffset_modeZero c hmode, hmode]
  · rw [ramOffset_window c (by omega) hmode]
    by_cases hbit : m.ramMode.getLsbD c.bitA000 = true
    · rw [if_pos ⟨hbit, hlo, hhi⟩, if_pos hbit, bankSize]
    · rw [if_neg (hbit ·.1), if_neg (by omega), if_neg (by omega), if_neg hbit, Nat.add_zero]

theorem ramOffset_E000 (c : Config) (m : Mapping) {a : Nat} (hlo : 0xE000 ≤ a) (hhi : a ≤ 0xFFFF) :
    ramOffset c m a = a + if m.ramMode.getLsbD c.bitE000 then m.ramBank * 0x10000 else 0 := by
  by_cases hmode : m.ramMode = 0#8
  · simp [ramOffset_modeZero c hmode, hmode]
  · rw [ramOffset_window c (by omega) hmode, if_neg (by omega), if_neg (by omega)]
    by_cases hbit : m.ramMode.getLsbD c.bitE000 = true
    · rw [if_pos ⟨hbit, hlo, hhi⟩, if_pos hbit, bankSize]
    · rw [if_neg (hbit ·.1), if_neg hbit, Nat.add_zero]

/-- Settles O23: GLOBAL and STACK by their definitions, RAM by the window that the 16-bit address lies in. -/
theorem translationByWindow : Obligations.TranslationByWindow := by
  intro s addr
  have haddr : addr % 0x10000 < 0x10000 := Nat.mod_lt _ (by decide)
  refine ⟨rfl, fun hoff => ?_, fun hon => ?_, ramOffset_low _ _, ramOffset_8000 _ _, ramOffset_A000 _ _,
    fun hlo => ramOffset_E000 _ _ hlo (by omega)⟩
  · exact if_neg (by simp [hoff])
  · exact if_pos hon

/-! ### Memory (20_memory R38, R46) -/

/-- R38, R46: what a read by any space and address gives after a write by any other. -/
theorem State.read_write (s : State) (a b : Nat) (sp sp' : Space) (v : Byte) :
    (s.write a v sp).read b sp' = if s.translate b sp' = s.translate a sp then v else s.read b sp' :=
  s.byteAt_write a v sp (s.translate b sp')

/-- Settles O25: the two cases of `State.read_write`; the form by `State.wf_write`. -/
theorem readReturnsLastWrite : Obligations.ReadReturnsLastWrite :=
  fun s a b sp sp' v => ⟨fun h => (s.read_write a b sp sp' v).trans (if_pos h),
    fun h => (s.read_write a b sp sp' v).trans (if_neg h), fun h => State.wf_write h a v sp⟩

/-! ### Push16 and Pop16 (45_stack_io_control R135) -/

/-- R31: an address and the next one modulo 2^16 have two different STACK offsets. -/
theorem State.stackAt_succ_ne (s : State) (a : Word) : s.stackAt (a + 1) ≠ s.stackAt a :=
  s.translate_ne (by decide) (by bv_omega)

/-- What a push of `v` does: the two bytes below SP, SP two lower, and two WRITE counted. -/
structure Pushed (s t : State) (v : Word) : Prop where
  sp : t.sp = s.sp - 2
  hi : t.byteAt (s.stackAt (s.sp - 1)) = v.extractLsb' 8 8
  lo : t.byteAt (s.stackAt (s.sp - 2)) = v.extractLsb' 0 8
  regs : t.regs = s.regs
  flags : t.flags = s.flags
  touches : Touches s t [s.stackAt (s.sp - 1), s.stackAt (s.sp - 2)] [] [s.stackAt (s.sp - 1), s.stackAt (s.sp - 2)]

theorem State.sp_sub_one_sub_one (s : State) : s.sp - 1 - 1 = s.sp - 2 := by bv_omega

theorem State.push16_touches (s : State) (v : Word) :
    Touches s (s.push16 v) [s.stackAt (s.sp - 1), s.stackAt (s.sp - 2)] []
      [s.stackAt (s.sp - 1), s.stackAt (s.sp - 2)] := by
  have hdown := touches_cpu s s.regs s.flags (s.sp - 1) s.pc
  have hhi := hdown.trans (State.memWrite_touches _ (s.sp - 1) (v.extractLsb' 8 8) .stack)
  have hdown' := hhi.trans (touches_cpu _ s.regs s.flags (s.sp - 1 - 1) s.pc)
  have hlo := hdown'.trans (State.memWrite_touches _ (s.sp - 1 - 1) (v.extractLsb' 0 8) .stack)
  rw [State.stackAt, State.stackAt, ← s.sp_sub_one_sub_one]
  exact hlo

theorem State.push16_pushed (s : State) (v : Word) : Pushed s (s.push16 v) v where
  sp := s.sp_sub_one_sub_one
  hi := by
    have hne : s.stackAt (s.sp - 1) ≠ s.stackAt (s.sp - 1 - 1) := by
      simpa [BitVec.sub_add_cancel] using s.stackAt_succ_ne (s.sp - 1 - 1)
    rw [State.byteAt_push16]
    exact (if_neg hne).trans (if_pos rfl)
  lo := by
    rw [State.byteAt_push16, ← s.sp_sub_one_sub_one]
    exact if_pos rfl
  regs := rfl
  flags := rfl
  touches := s.push16_touches v

/-- R135: the pop reads the bytes at SP and SP + 1. -/
theorem State.pop16_touches (s : State) :
    Touches s s.pop16.2 [] [s.stackAt s.sp, s.stackAt (s.sp + 1)] [] := by
  have hlo := (s.memRead_touches s.sp .stack).trans (touches_cpu _ s.regs s.flags (s.sp + 1) s.pc)
  have hhi := hlo.trans (State.memRead_touches _ (s.sp + 1) .stack)
  exact hhi.trans (touches_cpu _ s.regs s.flags (s.sp + 1 + 1) s.pc)

theorem State.pop16_sp_add_two (s : State) : s.pop16.2.sp = s.sp + 2 := by
  rw [State.pop16_sp]
  bv_omega

/-- Settles O27: the pushed bytes stand where the pop reads, and make the word again. -/
theorem popReturnsWhatWasPushed : Obligations.PopReturnsWhatWasPushed := by
  intro s v
  have hpush := s.push16_pushed v
  obtain ⟨hkeep, hbytes, -⟩ := hpush.touches
  refine ⟨?_, ?_, hpush.sp, hpush.hi, hpush.lo, hbytes⟩
  · have hsp : s.sp - 2 + 1 = s.sp - 1 := by bv_omega
    have hstack : ∀ a : Word, (s.push16 v).translate a.toNat .stack = s.stackAt a := fun a =>
      State.translate_congr hkeep.map hkeep.config a.toNat .stack
    rw [State.pop16_fst, hpush.sp, hsp, State.read, State.read, hstack, hstack, hpush.hi, hpush.lo, append_extract]
  · rw [State.pop16_sp_add_two, hpush.sp]
    exact BitVec.sub_add_cancel _ _

end Sys2Proof.Machine

namespace Sys2Proof.Machine

/-! ### ADD8, SUB8 (42_arithmetic R90 to R92) -/

/-- Settles O28: `add8_isSum`. -/
theorem addComputesSumAndCarries : Obligations.AddComputesSumAndCarries := add8_isSum

/-- Settles O29: `sub8_isDifference`. -/
theorem subComputesDifferenceAndBorrow : Obligations.SubComputesDifferenceAndBorrow := sub8_isDifference

/-- Settles O30: the sum and the difference in integers cancel modulo 2^8. -/
theorem subUndoesAdd : Obligations.SubUndoesAdd := by
  intro x y c
  obtain ⟨hsum, -⟩ := add8_isSum x y c
  obtain ⟨hdiff, -⟩ := sub8_isDifference (add8 x y c).r y c
  have hx := x.isLt
  have hy := y.isLt
  have hc := c.toNat_le
  apply BitVec.eq_of_toNat_eq
  rw [hdiff, hsum]
  omega

/-! ### DAA (42_arithmetic R106) -/

theorem extractLsb'_low_toNat (a : Byte) : (a.extractLsb' 0 4).toNat = a.toNat % 16 := by
  rw [BitVec.extractLsb'_toNat, Nat.shiftRight_zero]

theorem extractLsb'_high_toNat (a : Byte) : (a.extractLsb' 4 4).toNat = a.toNat / 16 := by
  rw [BitVec.extractLsb'_toNat, Nat.shiftRight_eq_div_pow]
  omega

/-- R106: the low correction applies. -/
def daaLow (a : Byte) (ac : Bool) : Bool := decide (ac = true ∨ a.toNat % 16 > 9)

theorem daaHigh_eq (a : Byte) (cy : Bool) :
    daaHigh a cy = decide (cy = true ∨ a.toNat / 16 > 9 ∨ (a.toNat / 16 ≥ 9 ∧ a.toNat % 16 > 9)) := by
  simp only [daaHigh, extractLsb'_low_toNat, extractLsb'_high_toNat, Bool.decide_or, Bool.decide_and,
    Bool.decide_eq_true, Bool.or_assoc]

/-- R106: the correction is 0x06 for the low digit and 0x60 for the high one. -/
theorem daaCorrection_eq (a : Byte) (ac cy : Bool) :
    daaCorrection a ac cy = BitVec.ofNat 8 ((daaLow a ac).toNat * 0x06 + (daaHigh a cy).toNat * 0x60) := by
  have hlow : (ac || decide ((a.extractLsb' 0 4).toNat > 9)) = daaLow a ac := by
    rw [extractLsb'_low_toNat, daaLow, Bool.decide_or, Bool.decide_eq_true]
  rw [daaCorrection, hlow]
  cases daaLow a ac <;> cases daaHigh a cy <;> rfl

/-- R106: DAA is the addition of its correction, whose carry is kept from CY or set by the high correction. -/
theorem daa8_isSum (a : Byte) (ac cy : Bool) :
    ∃ f, IsSum a (BitVec.ofNat 8 ((daaLow a ac).toNat * 0x06 + (daaHigh a cy).toNat * 0x60)) false (daa8 a ac cy).r f ∧
      (daa8 a ac cy).flags = { f with cy := cy || daaHigh a cy } := by
  rw [← daaCorrection_eq]
  exact ⟨_, add8_isSum a _ false, rfl⟩

/-- Settles O48: `daa8_isSum`, with the two conditions in integers. -/
theorem decimalAdjust : Obligations.DecimalAdjust := by
  refine ⟨hasForm_of_encode rfl rfl rfl, fun s lo hi hlo hhi => ⟨_, rfl, ?_, s.setAcc_frame _⟩⟩
  rw [hlo, hhi, ← daaHigh_eq]
  exact daa8_isSum s.regs.a s.flags.ac s.flags.cy

/-- R106 in integers: the low correction is due exactly when the low digits sum to 10 or more, the high one exactly when
the decimal sum is 100 or more; each then moves a carry of sixteen to a carry of ten. -/
theorem decimal_correction {x y c r lo hi : Nat} (hx : x % 16 ≤ 9) (hx' : x / 16 ≤ 9) (hy : y % 16 ≤ 9)
    (hy' : y / 16 ≤ 9) (hc : c ≤ 1) (hr : r = (x + y + c) % 256)
    (hlo : lo = if 16 ≤ x % 16 + y % 16 + c ∨ r % 16 > 9 then 1 else 0)
    (hhi : hi = if 256 ≤ x + y + c ∨ r / 16 > 9 ∨ (r / 16 ≥ 9 ∧ r % 16 > 9) then 1 else 0) :
    (r + (lo * 6 + hi * 96)) % 256 % 16 ≤ 9 ∧ (r + (lo * 6 + hi * 96)) % 256 / 16 ≤ 9 ∧
    (r + (lo * 6 + hi * 96)) % 256 / 16 * 10 + (r + (lo * 6 + hi * 96)) % 256 % 16 + 100 * hi =
      (x / 16 * 10 + x % 16) + (y / 16 * 10 + y % 16) + c := by
  split at hlo <;> split at hhi <;> subst hlo hhi <;> omega

/-- R106: a carry in calls for the high correction, so the carry out is that correction. -/
theorem daa8_cy (a : Byte) (ac cy : Bool) : (daa8 a ac cy).flags.cy = daaHigh a cy := by
  obtain ⟨f, -, hflags⟩ := daa8_isSum a ac cy
  rw [hflags, daaHigh_eq]
  cases cy <;> simp

/-- Settles O33: DAA adds the correction that `decimal_correction` asks for, after the sum of `add8_isSum`. -/
theorem daaGivesDecimalSum : Obligations.DaaGivesDecimalSum := by
  intro x y c hx hx' hy hy'
  refine ⟨_, rfl, ?_⟩
  obtain ⟨hr, hcy, hac, -⟩ := add8_isSum x y c
  obtain ⟨f, ⟨hd, -⟩, -⟩ := daa8_isSum (add8 x y c).r (add8 x y c).flags.ac (add8 x y c).flags.cy
  rw [BitVec.toNat_ofNat, Bool.toNat_false, Nat.add_zero, Nat.add_mod_mod] at hd
  rw [daa8_cy, hd]
  refine decimal_correction hx hx' hy hy' c.toNat_le hr ?_ ?_
  · rw [daaLow, hac, Bool.toNat, Bool.cond_decide]
    simp only [decide_eq_true_eq]
  · rw [daaHigh_eq, hcy, Bool.toNat, Bool.cond_decide]
    simp only [decide_eq_true_eq]

/-! ### ANA, XRA, ORA, ANI, XRI, ORI (43_logical R107 to R110, R112 to R114) -/

/-- R107: LOGIC8 works bit by bit, with AC after AND alone. -/
theorem logic8_isLogic (op : LogicOp) (a v : Byte) : IsLogic op a v (logic8 op a v).r (logic8 op a v).flags := by
  cases op with
  | and =>
    exact ⟨fun _ _ => BitVec.getLsbD_and, BitVec.getLsbD_or, rfl, Flags.ofResult_resultFlags _ _ _⟩
  | xor => exact ⟨fun _ _ => BitVec.getLsbD_xor, rfl, rfl, Flags.ofResult_resultFlags _ _ _⟩
  | or => exact ⟨fun _ _ => BitVec.getLsbD_or, rfl, rfl, Flags.ofResult_resultFlags _ _ _⟩

/-- Settles O43: each form is `logic8` on its operand or its immediate. -/
theorem logicalInstructions : Obligations.LogicalInstructions := by
  refine ⟨fun src s => ?_, fun v s => ?_⟩
  · simp only [List.forall_mem_cons]
    exact ⟨⟨hasForm_ana src, _, rfl, logic8_isLogic .and _ _, accOp_frame _ src s⟩,
      ⟨hasForm_xra src, _, rfl, logic8_isLogic .xor _ _, accOp_frame _ src s⟩,
      ⟨hasForm_ora src, _, rfl, logic8_isLogic .or _ _, accOp_frame _ src s⟩, List.forall_mem_nil _⟩
  · simp only [List.forall_mem_cons]
    exact ⟨⟨hasForm_of_encode rfl rfl rfl, _, rfl, logic8_isLogic .and _ v, s.setAcc_frame _⟩,
      ⟨hasForm_of_encode rfl rfl rfl, _, rfl, logic8_isLogic .xor _ v, s.setAcc_frame _⟩,
      ⟨hasForm_of_encode rfl rfl rfl, _, rfl, logic8_isLogic .or _ v, s.setAcc_frame _⟩, List.forall_mem_nil _⟩

/-! ### The flag byte (10_state R19) -/

theorem Flags.toByte_getLsbD (f : Flags) :
    f.toByte.getLsbD 7 = f.s ∧ f.toByte.getLsbD 6 = f.z ∧ f.toByte.getLsbD 5 = false ∧ f.toByte.getLsbD 4 = f.ac ∧
    f.toByte.getLsbD 3 = false ∧ f.toByte.getLsbD 2 = f.p ∧ f.toByte.getLsbD 1 = true ∧ f.toByte.getLsbD 0 = f.cy := by
  obtain ⟨s, z, ac, p, cy⟩ := f
  revert s z ac p cy
  decide

theorem Flags.ofByte_toByte (f : Flags) : Flags.ofByte f.toByte = f := by
  obtain ⟨hs, hz, -, hac, -, hp, -, hcy⟩ := f.toByte_getLsbD
  rw [Flags.ofByte, hs, hz, hac, hp, hcy]

theorem Flags.toByte_ofByte : ∀ v : Byte, (Flags.ofByte v).toByte = (v &&& 0xD7#8) ||| 0x02#8 := by decide

/-- Settles O32: the bits of `toByte` one by one; the round trips follow. -/
theorem flagByteForcesFixedBits : Obligations.FlagByteForcesFixedBits :=
  ⟨Flags.toByte_getLsbD, Flags.toByte_ofByte, Flags.ofByte_toByte⟩

end Sys2Proof.Machine

namespace Sys2Proof.Machine

/-! ### Jumps (40_sequencer R71; 44_branch R123, R124, R126) -/

/-- R71: an opcode that is no conditional call or return has the one length. -/
theorem instrCycles_fixed {op : Byte} (h : mayCollapse op = false) (c : Config) (f : Flags) :
    instrCycles c f op = c.cyclesOf op := by
  simp [instrCycles, h]

/-- R71: a conditional call or return has the length of its outcome. -/
theorem instrCycles_conditional {op : Byte} {cond : Cond} (h : mayCollapse op = true) (hcond : condOf (opMid op) = cond)
    (c : Config) (f : Flags) : instrCycles c f op = if f.test cond then c.cyclesOf op else c.cyclesNTOf op := by
  cases htest : f.test cond <;> simp [instrCycles, h, hcond, htest]

/-- R126: the rule of a conditional jump, from its opcode and its meaning. -/
theorem conditionalJump_spec {mk : Word → Instr} {op : Byte} {taken : Bool} {a : Word} {s : State}
    (hencode : ∀ v, encode (mk v) = op :: immBytes v) (hlen : lenOf op = 3)
    (hinstr : ∀ b2 b3, instrOf op b2 b3 = mk (b3 ++ b2)) (hcycles : Config.default.cyclesOf op = 3)
    (hfixed : mayCollapse op = false) (hexec : exec (mk a) s = .next (if taken then jumpTo a s else s)) :
    HasForm (mk a) [op, a.extractLsb' 0 8, a.extractLsb' 8 8] 3 ∧ instrCycles Config.default s.flags op = 3 ∧
    Answers (mk a) s fun t => t = { s with pc := if taken then a else s.pc } := by
  refine ⟨hasForm_word hencode hlen hinstr hcycles a, (instrCycles_fixed hfixed _ _).trans hcycles, _, hexec, ?_⟩
  cases taken <;> rfl

/-- Settles O49: JMP and its duplicate set PC; the eight others are `jumpIf` on their flags. -/
theorem jumpsSetPc : Obligations.JumpsSetPc := by
  intro a s
  simp only [List.forall_mem_cons]
  refine ⟨⟨?jmp, instrCycles_fixed rfl _ _, _, rfl, rfl⟩, ⟨?jmpU, instrCycles_fixed rfl _ _, _, rfl, rfl⟩,
    ?_, ?_, ?_, ?_, ?_, ?_, ?_, ?_, List.forall_mem_nil _⟩
  case jmp | jmpU => exact hasForm_word (fun _ => rfl) rfl (fun _ _ => rfl) rfl a
  all_goals exact conditionalJump_spec (fun _ => rfl) rfl (fun _ _ => rfl) rfl rfl rfl

/-! ### Calls and restarts (44_branch R128 to R130, R134) -/

/-- R128: what a call taken leaves: the address after it pushed, and PC at the target. -/
def Called (a : Word) (s t : State) : Prop :=
  t.pc = a ∧ t.sp = s.sp - 2 ∧ t.byteAt (s.stackAt (s.sp - 1)) = s.pc.extractLsb' 8 8 ∧
  t.byteAt (s.stackAt (s.sp - 2)) = s.pc.extractLsb' 0 8 ∧ t.regs = s.regs ∧ t.flags = s.flags ∧
  Touches s t [s.stackAt (s.sp - 1), s.stackAt (s.sp - 2)] [] [s.stackAt (s.sp - 1), s.stackAt (s.sp - 2)]

theorem callTo_called (a : Word) (s : State) : Called a s (callTo a s) := by
  have hpush := s.push16_pushed s.pc
  exact ⟨rfl, hpush.sp, hpush.hi, hpush.lo, rfl, rfl, hpush.touches.trans (touches_cpu _ s.regs s.flags _ a)⟩

/-- R134: a restart is a call of its own address. -/
theorem State.restart_called (s : State) (n : BitVec 3) :
    Called (BitVec.ofNat 16 (8 * n.toNat)) s (s.restart n) :=
  callTo_called _ s

/-- R128, R129: the rule of a call without condition, from its meaning. -/
theorem call_spec {i : Instr} {op : Byte} {a : Word} {s : State} (hcycles : Config.default.cyclesOf op = 6)
    (hfixed : mayCollapse op = false) (hexec : exec i s = .next (callTo a s)) :
    instrCycles Config.default s.flags op = 6 ∧ (True → Answers i s (Called a s)) ∧
    (true = false → Answers i s fun t => t = s) :=
  ⟨(instrCycles_fixed hfixed _ _).trans hcycles, fun _ => ⟨_, hexec, callTo_called a s⟩, nofun⟩

/-- R130: the rule of a conditional call, from its opcode and its condition. -/
theorem conditionalCall_spec {mk : Word → Instr} {op : Byte} {cond : Cond} {a : Word} {s : State}
    (hencode : ∀ v, encode (mk v) = op :: immBytes v) (hlen : lenOf op = 3)
    (hinstr : ∀ b2 b3, instrOf op b2 b3 = mk (b3 ++ b2)) (hcycles : Config.default.cyclesOf op = 6)
    (hcyclesNT : Config.default.cyclesNTOf op = 4) (hcollapse : mayCollapse op = true)
    (hcond : condOf (opMid op) = cond) (hexec : exec (mk a) s = .next (callIf cond a s)) :
    HasForm (mk a) [op, a.extractLsb' 0 8, a.extractLsb' 8 8] 6 ∧
    instrCycles Config.default s.flags op = (if s.flags.test cond then 6 else 4) ∧
    (s.flags.test cond = true → Answers (mk a) s (Called a s)) ∧
    (s.flags.test cond = false → Answers (mk a) s fun t => t = s) := by
  refine ⟨hasForm_word hencode hlen hinstr hcycles a, ?_, fun htaken => ⟨_, hexec, ?_⟩, fun hnot => ⟨_, hexec, ?_⟩⟩
  · rw [instrCycles_conditional hcollapse hcond, hcycles, hcyclesNT]
  · rw [callIf, if_pos htaken]
    exact callTo_called a s
  · rw [callIf, if_neg (by simp [hnot])]

/-- Settles O50: CALL and its duplicates are `callTo`; the eight others are `callIf` on their flags. -/
theorem callsPushReturnAddress : Obligations.CallsPushReturnAddress := by
  intro a s
  simp only [List.forall_mem_cons]
  refine ⟨⟨hasForm_word (fun _ => rfl) rfl (fun _ _ => rfl) rfl a, call_spec rfl rfl rfl⟩,
    ⟨hasForm_callU 1#2 (by decide) a, call_spec rfl rfl rfl⟩, ⟨hasForm_callU 2#2 (by decide) a, call_spec rfl rfl rfl⟩,
    ⟨hasForm_callU 3#2 (by decide) a, call_spec rfl rfl rfl⟩, ?_, ?_, ?_, ?_, ?_, ?_, ?_, ?_, List.forall_mem_nil _⟩
  all_goals exact conditionalCall_spec (fun _ => rfl) rfl (fun _ _ => rfl) rfl rfl rfl rfl rfl

/-- Settles O52: the restart is a call of 8 * n, which is no more than 56. -/
theorem restartPushesAndJumps : Obligations.RestartPushesAndJumps := by
  intro n s
  obtain ⟨-, hpushed⟩ := s.restart_called n
  refine ⟨hasForm_rst n, _, rfl, ?_, hpushed⟩
  rw [State.restart_pc, BitVec.toNat_ofNat]
  have hn := n.isLt
  omega

/-! ### Returns (44_branch R131 to R133) -/

/-- R131: what a return taken leaves: PC from the two bytes at SP, and SP two higher. -/
def Returned (s t : State) : Prop :=
  t.pc.extractLsb' 0 8 = s.byteAt (s.stackAt s.sp) ∧ t.pc.extractLsb' 8 8 = s.byteAt (s.stackAt (s.sp + 1)) ∧
  t.sp = s.sp + 2 ∧ t.regs = s.regs ∧ t.flags = s.flags ∧ Touches s t [] [s.stackAt s.sp, s.stackAt (s.sp + 1)] []

/-- R135: the popped word is the byte at SP + 1 over the byte at SP. -/
theorem State.pop16_halves (s : State) :
    s.pop16.1.extractLsb' 0 8 = s.byteAt (s.stackAt s.sp) ∧
    s.pop16.1.extractLsb' 8 8 = s.byteAt (s.stackAt (s.sp + 1)) :=
  ⟨extract_lo _ _, extract_hi _ _⟩

theorem State.returnToCaller_returned (s : State) : Returned s s.returnToCaller := by
  obtain ⟨hlo, hhi⟩ := s.pop16_halves
  exact ⟨hlo, hhi, s.pop16_sp_add_two, rfl, rfl, s.pop16_touches.trans (touches_cpu _ s.regs s.flags _ _)⟩

/-- R131, R132: the rule of a return without condition, from its meaning. -/
theorem return_spec {i : Instr} {op : Byte} {s : State} (hcycles : Config.default.cyclesOf op = 3)
    (hfixed : mayCollapse op = false) (hexec : exec i s = .next s.returnToCaller) :
    instrCycles Config.default s.flags op = 3 ∧ (True → Answers i s (Returned s)) ∧
    (true = false → Answers i s fun t => t = s) :=
  ⟨(instrCycles_fixed hfixed _ _).trans hcycles, fun _ => ⟨_, hexec, s.returnToCaller_returned⟩, nofun⟩

/-- R133: the rule of a conditional return, from its opcode and its condition. -/
theorem conditionalReturn_spec {i : Instr} {op : Byte} {cond : Cond} {s : State} (hencode : encode i = [op])
    (hdecode : decode [op] = .ok i []) (hcycles : Config.default.cyclesOf op = 4)
    (hcyclesNT : Config.default.cyclesNTOf op = 2) (hcollapse : mayCollapse op = true)
    (hcond : condOf (opMid op) = cond) (hexec : exec i s = .next (returnIf cond s)) :
    HasForm i [op] 4 ∧ instrCycles Config.default s.flags op = (if s.flags.test cond then 4 else 2) ∧
    (s.flags.test cond = true → Answers i s (Returned s)) ∧
    (s.flags.test cond = false → Answers i s fun t => t = s) := by
  refine ⟨hasForm_of_encode hencode hdecode hcycles, ?_, fun htaken => ⟨_, hexec, ?_⟩, fun hnot => ⟨_, hexec, ?_⟩⟩
  · rw [instrCycles_conditional hcollapse hcond, hcycles, hcyclesNT]
  · rw [returnIf, if_pos htaken]
    exact s.returnToCaller_returned
  · rw [returnIf, if_neg (by simp [hnot])]

/-- Settles O51: RET and its duplicate are `returnToCaller`; the eight others are `returnIf` on their flags. -/
theorem returnsPopPc : Obligations.ReturnsPopPc := by
  intro s
  simp only [List.forall_mem_cons]
  refine ⟨⟨hasForm_of_encode rfl rfl rfl, return_spec rfl rfl rfl⟩,
    ⟨hasForm_of_encode rfl rfl rfl, return_spec rfl rfl rfl⟩,
    ?_, ?_, ?_, ?_, ?_, ?_, ?_, ?_, List.forall_mem_nil _⟩
  all_goals exact conditionalReturn_spec rfl rfl rfl rfl rfl rfl rfl

/-! ### PUSH and POP (45_stack_io_control R136, R137) -/

/-- R13, R136: a pair is its two bytes, high first. -/
theorem State.stackPair_halves (s : State) (p : StackPair) :
    s.stackPair p = (s.stackHalves p).1 ++ (s.stackHalves p).2 := by
  cases p <;> rfl

/-- R137: the halves of a popped pair are those of the word, the flag byte's fixed bits forced. -/
theorem State.stackHalves_setStackPair (s : State) (p : StackPair) (v : Word) :
    (s.setStackPair p v).stackHalves p =
      (v.extractLsb' 8 8, if p = .psw then v.extractLsb' 0 8 &&& 0xD7#8 ||| 0x02#8 else v.extractLsb' 0 8) := by
  cases p
  case psw => exact Prod.ext rfl (Flags.toByte_ofByte _)
  all_goals rfl

/-- R137: a popped pair leaves the other pairs alone; PSW shares no register with them. -/
theorem State.stackHalves_setStackPair_ne (s : State) {p q : StackPair} (v : Word) (hne : q ≠ p) (hpsw : q ≠ .psw) :
    (s.setStackPair p v).stackHalves q = s.stackHalves q := by
  cases p <;> cases q
  case bc.bc | de.de | hl.hl => exact absurd rfl hne
  case bc.psw | de.psw | hl.psw | psw.psw => exact absurd rfl hpsw
  all_goals rfl

theorem State.setStackPair_acc {s : State} {p : StackPair} (v : Word) (h : p ≠ .psw) :
    (s.setStackPair p v).regs.a = s.regs.a ∧ (s.setStackPair p v).flags = s.flags := by
  cases p
  case psw => exact absurd rfl h
  all_goals exact ⟨rfl, rfl⟩

theorem State.setStackPair_touches (s : State) (p : StackPair) (v : Word) :
    Touches s (s.setStackPair p v) [] [] [] := by
  cases p <;> exact touches_cpu s _ _ s.sp s.pc

/-- Settles O53: PUSH is a push of the pair's two bytes; POP writes the halves of the popped word. -/
theorem pushAndPop : Obligations.PushAndPop := by
  refine fun p s => ⟨⟨hasForm_push p, _, rfl, ?_⟩, hasForm_pop p, _, rfl, ?_⟩
  · have hpush := s.push16_pushed (s.stackPair p)
    have hhi : (s.stackPair p).extractLsb' 8 8 = (s.stackHalves p).1 := by rw [s.stackPair_halves, extract_hi]
    have hlo : (s.stackPair p).extractLsb' 0 8 = (s.stackHalves p).2 := by rw [s.stackPair_halves, extract_lo]
    exact ⟨hpush.hi.trans hhi, hpush.lo.trans hlo, hpush.sp, rfl, rfl, rfl, hpush.touches⟩
  · obtain ⟨hlo, hhi⟩ := s.pop16_halves
    rw [State.stackHalves_setStackPair, hlo, hhi]
    refine ⟨rfl, rfl, fun q hne hpsw => ?_, fun hp => ?_, ?_, by simp, ?_⟩
    · exact State.stackHalves_setStackPair_ne s.pop16.2 _ hne hpsw
    · exact State.setStackPair_acc (s := s.pop16.2) _ hp
    · rw [State.setStackPair_sp, State.pop16_sp_add_two]
    · exact s.pop16_touches.trans (State.setStackPair_touches _ p _)

/-! ### XTHL (45_stack_io_control R138) -/

theorem OnlyBytes.mono {s t : State} {g g' : List Nat} (h : OnlyBytes s t g) (hsub : g ⊆ g') : OnlyBytes s t g' :=
  fun k hk => h k (fun hmem => hk (hsub hmem))

theorem KeepsControl.stackAt {s t : State} (h : KeepsControl s t) (a : Word) : t.stackAt a = s.stackAt a :=
  State.translate_congr h.map h.config a.toNat .stack

/-- R138: the two reads: the word at `a`, with every byte as it was. -/
theorem State.stackReads_touches (s : State) (a : Word) :
    Touches s ((s.memRead a .stack .read).2.memRead (a + 1) .stack .read).2 []
      [s.stackAt a, s.stackAt (a + 1)] [] :=
  (s.memRead_touches a .stack).trans (State.memRead_touches _ (a + 1) .stack)

/-- R138: the two writes: `hi` at `a + 1`, then `lo` at `a`, whose offset is another one. -/
theorem State.stackWrites_spec (s : State) (a : Word) (hi lo : Byte) :
    ((s.memWrite (a + 1) hi .stack).memWrite a lo .stack).byteAt (s.stackAt a) = lo ∧
    ((s.memWrite (a + 1) hi .stack).memWrite a lo .stack).byteAt (s.stackAt (a + 1)) = hi ∧
    Touches s ((s.memWrite (a + 1) hi .stack).memWrite a lo .stack) [s.stackAt a, s.stackAt (a + 1)] []
      [s.stackAt (a + 1), s.stackAt a] := by
  have hfirst := s.memWrite_touches (a + 1) hi .stack
  have hsecond := State.memWrite_touches (s.memWrite (a + 1) hi .stack) a lo .stack
  obtain ⟨hkeep, hbytes, hcount⟩ := hfirst.trans hsecond
  refine ⟨?_, ?_, hkeep, hbytes.mono ?_, hcount⟩
  · rw [State.byteAt_memWrite]
    exact if_pos rfl
  · rw [State.byteAt_memWrite, State.byteAt_memWrite]
    exact (if_neg (s.stackAt_succ_ne a)).trans (if_pos rfl)
  · exact (List.Perm.swap (s.stackAt a) (s.stackAt (a + 1)) []).subset

/-- R138: what XTHL leaves, once the two reads have given `u` and the bytes `h` and `l`. -/
theorem State.exchange_spec {s u : State} (h l : Byte)
    (hread : Touches s u [] [s.stackAt s.sp, s.stackAt (s.sp + 1)] []) (hregs : u.regs = s.regs) {t : State}
    (ht : t = ((u.memWrite (s.sp + 1) s.regs.h .stack).memWrite s.sp s.regs.l .stack).setHl (h ++ l)) :
    t.regs = { s.regs with l := l, h := h } ∧ t.byteAt (s.stackAt s.sp) = s.regs.l ∧
    t.byteAt (s.stackAt (s.sp + 1)) = s.regs.h ∧ t.flags = u.flags ∧ t.sp = u.sp ∧ t.pc = u.pc ∧
    Touches s t [s.stackAt s.sp, s.stackAt (s.sp + 1)] [s.stackAt s.sp, s.stackAt (s.sp + 1)]
      [s.stackAt (s.sp + 1), s.stackAt s.sp] := by
  have ⟨hkeep, _, _⟩ := hread
  obtain ⟨hlo, hhi, hwrite⟩ := u.stackWrites_spec s.sp s.regs.h s.regs.l
  rw [hkeep.stackAt] at hlo hhi
  rw [hkeep.stackAt, hkeep.stackAt] at hwrite
  subst ht
  refine ⟨?_, hlo, hhi, rfl, rfl, rfl, (hread.trans hwrite).trans (touches_cpu _ _ _ _ _)⟩
  rw [State.setHl_append, ← hregs]
  rfl

/-- Settles O54: the two reads give HL, the two writes store the old halves. -/
theorem exchangeTopOfStack : Obligations.ExchangeTopOfStack :=
  ⟨hasForm_of_encode rfl rfl rfl, fun s => ⟨_, rfl, State.exchange_spec _ _ (s.stackReads_touches s.sp) rfl rfl⟩⟩

end Sys2Proof.Machine

namespace Sys2Proof.Machine

/-! ### The latch and the later machine cycles (60_exceptions R159; 40_sequencer R65, R75) -/

theorem State.latch_eq (s : State) (line : Bool) :
    s.latch line = { s with intr := { s.intr with
      iff := s.intr.iff || (line && (s.intr.inte || s.config.irqLatch == .ungated)) } } := by
  rw [← s.latch_intr line]
  unfold State.latch
  split <;> rfl

/-- Settles O9: `State.latch_eq`. -/
theorem requestIsLatched : Obligations.RequestIsLatched := by
  intro line s
  rw [State.latch_eq, beq_eq_decide]

/-- Settles O7: between boundaries the latch and the end of the cycle are all there is. -/
theorem laterCyclesOnlyCount : Obligations.LaterCyclesOnlyCount := by
  intro line s hmc
  rw [procStep_between line hmc, State.latch_eq]
  rfl

/-! ### One fetch (40_sequencer R66) -/

/-- Settles O26: one read at PC, one RUN, and PC one further. -/
theorem fetchReadsThroughPc : Obligations.FetchReadsThroughPc :=
  fun s => ⟨s.fetch_fst, BitVec.toNat_add s.pc 1#16, s.fetch_runCount, rfl⟩

/-! ### One raster tick (60_exceptions R167) -/

theorem Raster.next_of_lt {c : Config} {r : Raster} (h : r.pixel + c.pixelQuantum < c.framePixels) :
    (r.next c).pixel = r.pixel + c.pixelQuantum ∧ (r.next c).line = r.line := by
  have hnot : ¬ r.pixel + c.pixelQuantum ≥ c.framePixels := by omega
  simp [Raster.next, hnot]

theorem Raster.next_of_le {c : Config} {r : Raster} (h : c.framePixels ≤ r.pixel + c.pixelQuantum) :
    (r.next c).pixel = r.pixel + c.pixelQuantum - c.framePixels ∧ (r.next c).line = (r.line + 1) % c.frameLines := by
  simp [Raster.next, h]

/-- Settles O14: the two cases of the tick, and t50. -/
theorem rasterTickCounts : Obligations.RasterTickCounts :=
  fun s => ⟨Raster.next_of_lt, Raster.next_of_le, Raster.next_t50 s.config s.raster, rfl⟩

/-! ### Acceptance (60_exceptions R161) -/

/-- R161: the acceptance is the restart 7, which calls the handler's address, from the state with IR forced and the
flip-flops cleared. -/
theorem State.acceptInterrupt_called (s : State) :
    Called 0x0038#16 { s with
      seq := { s.seq with ir := rst7Opcode }
      intr := { s.intr with inte := false, iff := false, hlta := false } } s.acceptInterrupt :=
  State.restart_called _ 7#3

/-- R161: what the acceptance does to the bytes and the counters of the state it is made in. -/
theorem State.acceptInterrupt_spec (s : State) :
    s.acceptInterrupt.sp = s.sp - 2 ∧
    s.acceptInterrupt.byteAt (s.stackAt (s.sp - 1)) = s.pc.extractLsb' 8 8 ∧
    s.acceptInterrupt.byteAt (s.stackAt (s.sp - 2)) = s.pc.extractLsb' 0 8 ∧
    OnlyBytes s s.acceptInterrupt [s.stackAt (s.sp - 1), s.stackAt (s.sp - 2)] ∧
    Counted s s.acceptInterrupt [] [s.stackAt (s.sp - 1), s.stackAt (s.sp - 2)] := by
  obtain ⟨-, hsp, hhi, hlo, -, -, -, hbytes, hcount⟩ := s.acceptInterrupt_called
  exact ⟨hsp, hhi, hlo, hbytes, hcount⟩

/-- R71: the forced RST 7 has the one length `CYCLES[0xFF]`. -/
theorem instrCycles_rst7 (c : Config) (f : Flags) : instrCycles c f rst7Opcode = c.cyclesOf 0xFF#8 :=
  instrCycles_fixed rfl c f

/-- R159: whatever the latch does, it does to IFF. -/
theorem State.exists_latch_eq (s : State) (line : Bool) :
    ∃ iff, s.latch line = { s with intr := { s.intr with iff := iff } } :=
  ⟨_, s.latch_eq line⟩

/-- Settles O11: the acceptance of the latched state, whose bytes, counters and registers are those of `s`. -/
theorem acceptancePushesAndJumps : Obligations.AcceptancePushesAndJumps := by
  intro line s hmc hiff hinte heip
  have hacc := (s.latch_accepts line).mpr ⟨hiff, hinte, heip⟩
  have hspec := (s.latch line).acceptInterrupt_spec
  have hlen := instrCycles_rst7 s.config s.flags
  obtain ⟨iff, hlatch⟩ := s.exists_latch_eq line
  refine ⟨_, procStep_accept hmc hacc, ?_⟩
  rw [hlatch] at hspec ⊢
  obtain ⟨hsp, hhi, hlo, hbytes, hcount⟩ := hspec
  refine ⟨?_, rfl, hsp, hhi, hlo, hbytes, hcount, rfl, rfl, rfl, rfl, rfl, rfl, ?_⟩
  · simp [heip]
  · simp [hmc, hlen, ticksPerMc]
    rfl

/-! ### The fetched state (40_sequencer R64, R66, R67) -/

/-- R66: the instruction at the fetch address. -/
def State.fetchedInstr (s : State) : Instr :=
  instrOf (s.read s.fetchAddr.toNat .ram)
    (if lenOf (s.read s.fetchAddr.toNat .ram) = 1 then 0#8 else s.read (s.fetchAddr + 1).toNat .ram)
    (if lenOf (s.read s.fetchAddr.toNat .ram) = 1 ∨ lenOf (s.read s.fetchAddr.toNat .ram) = 2 then 0#8
      else s.read (s.fetchAddr + 2).toNat .ram)

/-- R66, R67: the state `u` that a boundary that does not accept hands to the instruction, when the latch has left the
flip-flops `intr`: IR and the length fixed, PC past the bytes, EIP and HLTA cleared, and one RUN counted for each
byte. -/
structure Fetched (s : State) (intr : Interrupts) (u : State) : Prop where
  regs : u.regs = s.regs
  flags : u.flags = s.flags
  sp : u.sp = s.sp
  map : u.map = s.map
  ports : u.ports = s.ports
  img : u.img = s.img
  config : u.config = s.config
  raster : u.raster = s.raster
  pc : u.pc = s.fetchAddr + BitVec.ofNat 16 (lenOf (s.read s.fetchAddr.toNat .ram))
  intr : u.intr = { intr with eip := false, hlta := false }
  seq : u.seq = { s.seq with
    ir := s.read s.fetchAddr.toNat .ram
    lenCur := instrCycles s.config s.flags (s.read s.fetchAddr.toNat .ram) }
  counts : ∀ g, u.readCount g = s.readCount g ∧ u.writeCount g = s.writeCount g ∧
    u.runCount g = s.runCount g + ([s.ramAt s.fetchAddr, s.ramAt (s.fetchAddr + 1), s.ramAt (s.fetchAddr + 2)].take
      (lenOf (s.read s.fetchAddr.toNat .ram))).count g

theorem State.beginFetch_fetched (s : State) : Fetched s s.intr s.beginFetch.fetchInstr.2.setLength := by
  obtain ⟨-, hseq, hreads, hwrites, hregs, hflags, hsp, hintr, hmap, hraster, hports, himg, hconfig⟩ :=
    s.beginFetch.fetchInstr_spec
  refine ⟨hregs, hflags, hsp, hmap, hports, himg, hconfig, hraster, s.beginFetch.fetchInstr_pc, hintr, ?_,
    fun g => ⟨?_, ?_, ?_⟩⟩
  · rw [State.setLength_seq, hseq, hconfig, hflags]
    rfl
  · exact congrArg (Sparse.lookup 0 · g) hreads
  · exact congrArg (Sparse.lookup 0 · g) hwrites
  · exact s.beginFetch.fetchInstr_runCount g

theorem State.beginFetch_fetchedInstr (s : State) : s.beginFetch.fetchInstr.1 = s.fetchedInstr := by
  have hnext : s.fetchAddr + 1 + 1 = s.fetchAddr + 2 := by bv_omega
  obtain ⟨hinstr, -⟩ := s.beginFetch.fetchInstr_spec
  rw [hinstr, State.fetchedInstr, ← hnext]
  rfl

/-- R64, R66: a boundary that accepts no interrupt runs the instruction at the fetch address on the fetched state. -/
theorem procStep_fetched {line : Bool} {s : State} (hmc : s.seq.mc = 0) (hacc : (s.latch line).accepts = false) :
    ∃ u t, Fetched s (s.latch line).intr u ∧ exec s.fetchedInstr u = .next t ∧ procStep line s = .next t.endCycle := by
  obtain ⟨t, hexec, -⟩ := exec_keeps (s.latch line).beginFetch.fetchInstr.1
    (s.latch line).beginFetch.fetchInstr.2.setLength
  have hstep := procStep_fetch hmc hacc hexec
  have hfetched := (s.latch line).beginFetch_fetched
  rw [State.beginFetch_fetchedInstr] at hexec
  generalize (s.latch line).beginFetch.fetchInstr.2.setLength = u at hexec hfetched
  refine ⟨u, t, ?_, ?_, hstep⟩
  · obtain ⟨iff, hlatch⟩ := s.exists_latch_eq line
    rw [hlatch] at hfetched ⊢
    obtain ⟨hregs, hflags, hsp, hmap, hports, himg, hconfig, hraster, hpc, hintr, hseq, hcounts⟩ := hfetched
    exact ⟨hregs, hflags, hsp, hmap, hports, himg, hconfig, hraster, hpc, hintr, hseq, hcounts⟩
  · obtain ⟨iff, hlatch⟩ := s.exists_latch_eq line
    rw [hlatch] at hexec
    exact hexec

/-- R51, R66: the decoder reads three bytes as the fetch does. -/
theorem decode_three (op b2 b3 : Byte) :
    decode [op, b2, b3] = .ok (instrOf op (if lenOf op = 1 then 0#8 else b2)
      (if lenOf op = 1 ∨ lenOf op = 2 then 0#8 else b3)) ([op, b2, b3].drop (lenOf op)) := by
  rcases lenOf_cases op with h | h | h <;> simp [decode, h]

theorem State.fetchedInstr_of_decode {s : State} {i : Instr} {rest : List Byte}
    (h : decode [s.read s.fetchAddr.toNat .ram, s.read (s.fetchAddr + 1).toNat .ram,
      s.read (s.fetchAddr + 2).toNat .ram] = .ok i rest) : s.fetchedInstr = i := by
  rw [decode_three] at h
  cases h
  rfl

theorem State.fetchedInstr_opcode (s : State) : s.fetchedInstr.opcode = s.read s.fetchAddr.toNat .ram :=
  instrOf_opcode _ _ _

theorem State.fetchedInstr_length (s : State) :
    (encode s.fetchedInstr).length = lenOf (s.read s.fetchAddr.toNat .ram) :=
  encode_instrOf_length _ _ _

/-- Settles O5: the fetched state of `procStep_fetched`, after the tick, which the fetch does not see. -/
theorem stepRunsDecodedInstruction : Obligations.StepRunsDecodedInstruction := by
  intro s i rest hmc hacc hdecode hwf
  obtain ⟨u, t, hfetched, hexec, hstep⟩ := procStep_fetched (s := s.rasterTick) hmc hacc
  obtain rfl : s.fetchedInstr = i := State.fetchedInstr_of_decode hdecode
  obtain ⟨hregs, hflags, hsp, hmap, hports, himg, hconfig, hraster, hpc, hintr, hseq, hcounts⟩ := hfetched
  rw [State.fetchedInstr_opcode, State.fetchedInstr_length]
  refine ⟨u, t, hexec, hstep, hregs, hflags, hsp, hmap, hports, himg, hconfig, hraster, hpc, ?_, hseq, hcounts⟩
  rw [hintr, State.latch_intr, State.latch_intr]
  rfl

/-- Settles O13: with HLTA set the fetch address is PC - 1, and HLT run there sets HLTA again. -/
theorem haltRefetchesItself : Obligations.HaltRefetchesItself := by
  intro line s hmc hhlta hacc
  obtain ⟨u, t, hfetched, hexec, hstep⟩ := procStep_fetched hmc hacc
  have haddr : s.fetchAddr = s.pc - 1 := if_pos hhlta
  obtain ⟨t', hexec', -, hseq', -⟩ := exec_keeps s.fetchedInstr u
  cases hexec.symm.trans hexec'
  have hir : t.seq.ir = s.read (s.pc - 1).toNat .ram := by rw [hseq', hfetched.seq, haddr]
  refine ⟨_, hstep, hir, fun hhlt => ?_⟩
  have hop : s.read s.fetchAddr.toNat .ram = 0x76#8 := by rw [haddr, ← hir]; exact hhlt
  have hinstr : s.fetchedInstr = .hlt := by rw [State.fetchedInstr, hop]; rfl
  have hpc := hfetched.pc
  have hcounts := hfetched.counts
  rw [hinstr] at hexec
  cases hexec
  rw [hop, haddr] at hpc hcounts
  refine ⟨?_, rfl, hfetched.regs, hfetched.flags, hfetched.sp, hfetched.img, fun g => ?_⟩
  · exact hpc.trans (BitVec.sub_add_cancel _ _)
  · obtain ⟨hreads, hwrites, hruns⟩ := hcounts g
    exact ⟨hruns, hreads, hwrites⟩

end Sys2Proof.Machine

namespace Sys2Proof.Machine

/-! ### The raster position after n ticks (60_exceptions R167) -/

/-- One quantum further, the position stays in its line. -/
theorem div_mod_add_of_lt {x q w : Nat} (h : x % w + q < w) : (x + q) / w = x / w ∧ (x + q) % w = x % w + q := by
  have hx := Nat.mod_add_div x w
  exact (Nat.div_mod_unique (by omega)).mpr ⟨by omega, h⟩

/-- One quantum further, the position goes to the next line. -/
theorem div_mod_add_of_le {x q w : Nat} (hw : 0 < w) (hq : q ≤ w) (h : w ≤ x % w + q) :
    (x + q) / w = x / w + 1 ∧ (x + q) % w = x % w + q - w := by
  have hx := Nat.mod_add_div x w
  have hmod := Nat.mod_lt x hw
  refine (Nat.div_mod_unique hw).mpr ⟨?_, by omega⟩
  rw [Nat.mul_add]
  omega

/-- R167: after n ticks the pixel counter is n quanta further modulo the line, and the line counter as many lines
further as were filled. -/
theorem Raster.iterate_next {c : Config} (h : c.Legal) {r : Raster} (hpixel : r.pixel < c.framePixels)
    (hline : r.line < c.frameLines) (n : Nat) :
    ((Raster.next c)^[n] r).pixel = (r.pixel + n * c.pixelQuantum) % c.framePixels ∧
    ((Raster.next c)^[n] r).line = (r.line + (r.pixel + n * c.pixelQuantum) / c.framePixels) % c.frameLines := by
  obtain ⟨-, -, -, ⟨hpixels, -, -, hquantum⟩, -⟩ := h
  have hle := Nat.le_of_dvd hpixels hquantum
  induction n with
  | zero => simp [Nat.mod_eq_of_lt, Nat.div_eq_of_lt, hpixel, hline]
  | succ n ih =>
    obtain ⟨ihpixel, ihline⟩ := ih
    rw [Function.iterate_succ_apply', Nat.add_one_mul, ← Nat.add_assoc]
    rcases Nat.lt_or_ge ((r.pixel + n * c.pixelQuantum) % c.framePixels + c.pixelQuantum) c.framePixels with hlt | hge
    · obtain ⟨hdiv, hmod⟩ := div_mod_add_of_lt hlt
      obtain ⟨hp, hl⟩ := Raster.next_of_lt (ihpixel ▸ hlt)
      rw [hp, hl, ihpixel, ihline, hdiv, hmod]
      exact ⟨rfl, rfl⟩
    · obtain ⟨hdiv, hmod⟩ := div_mod_add_of_le hpixels hle hge
      obtain ⟨hp, hl⟩ := Raster.next_of_le (ihpixel ▸ hge)
      rw [hp, hl, ihpixel, ihline, hdiv, hmod, Nat.mod_add_mod, Nat.add_assoc]
      exact ⟨rfl, rfl⟩

/-- R167: which tick of the frame a position is, for a whole number of quanta along the line. -/
def Raster.index (c : Config) (r : Raster) : Nat := r.pixel / c.pixelQuantum + c.framePixels / c.pixelQuantum * r.line

/-- R167: the position is (0, 0) again exactly when the ticks from the frame's start are a multiple of the frame. -/
theorem Raster.iterate_next_eq_zero_iff {c : Config} (h : c.Legal) {r : Raster} (hpixel : r.pixel < c.framePixels)
    (hline : r.line < c.frameLines) (hwhole : c.pixelQuantum ∣ r.pixel) (n : Nat) :
    ((Raster.next c)^[n] r).pixel = 0 ∧ ((Raster.next c)^[n] r).line = 0 ↔ (r.index c + n) % c.frameTicks = 0 := by
  obtain ⟨hp, hl⟩ := Raster.iterate_next h hpixel hline n
  obtain ⟨-, -, -, ⟨hpixels, -, hq, ⟨m, hm⟩⟩, -⟩ := h
  obtain ⟨j, hj⟩ := hwhole
  have hmpos : 0 < m := Nat.pos_of_mul_pos_left (hm ▸ hpixels)
  have hpos : r.pixel + n * c.pixelQuantum = c.pixelQuantum * (j + n) := by rw [hj]; ring
  have hindex : r.index c + n = j + n + m * r.line := by
    rw [Raster.index, hj, hm, Nat.mul_div_cancel_left _ hq, Nat.mul_div_cancel_left _ hq]
    omega
  have hticks : c.frameTicks = m * c.frameLines := by rw [Config.frameTicks, hm, Nat.mul_div_cancel_left _ hq]
  rw [hp, hl, hindex, hticks, hpos, hm, Nat.mul_mod_mul_left, Nat.mul_div_mul_left _ _ hq, Nat.mod_mul,
    Nat.add_mul_mod_self_left, Nat.add_mul_div_left _ _ hmpos, Nat.add_comm r.line]
  simp [hq.ne', hmpos.ne']

/-- R167: t50 is true after a tick that arrives at (0, 0). -/
theorem Raster.iterate_next_t50 {c : Config} (r : Raster) {n : Nat} (hn : 0 < n) :
    ((Raster.next c)^[n] r).t50 = true ↔ ((Raster.next c)^[n] r).pixel = 0 ∧ ((Raster.next c)^[n] r).line = 0 := by
  obtain ⟨k, rfl⟩ := Nat.exists_eq_add_one.mpr hn
  rw [Function.iterate_succ_apply']
  exact Raster.next_t50 _ _

/-- Settles O15: `Raster.iterate_next` from (0, 0), whose index is 0. -/
theorem framePulseOncePerFrame : Obligations.FramePulseOncePerFrame := by
  refine ⟨fun c n hlegal => ?_, rfl⟩
  have ⟨_, _, _, ⟨hpixels, hlines, _, _⟩, _⟩ := hlegal
  obtain ⟨hp, hl⟩ := Raster.iterate_next hlegal (r := ⟨0, 0, false⟩) hpixels hlines n
  rw [Nat.zero_add] at hp
  rw [Nat.zero_add, Nat.zero_add] at hl
  refine ⟨hp, hl, ?_⟩
  have hzero := Raster.iterate_next_eq_zero_iff hlegal (r := ⟨0, 0, false⟩) hpixels hlines (Nat.dvd_zero _) n
  have hindex : Raster.index c ⟨0, 0, false⟩ = 0 := by simp [Raster.index]
  rw [hindex, Nat.zero_add] at hzero
  rcases Nat.eq_zero_or_pos n with rfl | hn
  · simp
  · rw [Raster.iterate_next_t50 _ hn, hzero]
    exact (and_iff_right hn).symm

end Sys2Proof.Machine

namespace Sys2Proof.Machine

/-! ### The machine cycles of one instruction (40_sequencer R65, R68; 60_exceptions R169) -/

/-- R65, R75: the state `n` machine cycles further in its instruction, or at its end when `mc` is 0: the raster timer and
`cc` have moved, and IFF is what the latch has left. -/
def State.counted (s : State) (n mc : Nat) (iff : Bool) : State :=
  { s with
    intr := { s.intr with iff := iff }
    seq := { s.seq with mc := mc, cc := s.seq.cc + 4 * n }
    raster := (Raster.next s.config)^[n] s.raster }

/-- R169: between two boundaries a step ticks, latches and counts. -/
theorem step_between {s : State} (hmc : s.seq.mc ≠ 0) :
    ∃ iff, step s = .next (s.counted 1 ((s.seq.mc + 1) % s.seq.lenCur) iff) ∧ (s.intr.iff = true → iff = true) := by
  refine ⟨_, laterCyclesOnlyCount s.rasterTick.raster.t50 s.rasterTick hmc, fun h => ?_⟩
  simp [h]

/-- Machine cycles counted one after the other. -/
theorem State.counted_counted (s : State) (m n mc mc' : Nat) (iff iff' : Bool) :
    (s.counted m mc iff).counted n mc' iff' = s.counted (m + n) mc' iff' := by
  simp only [State.counted, Nat.mul_add, Nat.add_assoc, ← Function.iterate_add_apply, Nat.add_comm n m]

/-- R169: one turn of the loop of `execute_instruction`. -/
theorem runCycles_succ {s u : State} (h : step s = .next u) (fuel : Nat) (fired : Bool) :
    runCycles (fuel + 1) fired s =
      if u.atBoundary then .next (u, fired || u.raster.t50) else runCycles fuel (fired || u.raster.t50) u := by
  rw [runCycles, h]

/-- t50 is true on one of the ticks 1 to n from this raster position. -/
def Raster.FiresWithin (c : Config) (r : Raster) (n : Nat) : Prop :=
  ∃ k, 1 ≤ k ∧ k ≤ n ∧ ((Raster.next c)^[k] r).t50 = true

theorem Raster.firesWithin_zero (c : Config) (r : Raster) : ¬ r.FiresWithin c 0 := by
  rintro ⟨k, hk, hk', -⟩
  omega

/-- The first of the ticks, or one of the others. -/
theorem Raster.firesWithin_succ (c : Config) (r : Raster) (n : Nat) :
    r.FiresWithin c (n + 1) ↔ (r.next c).t50 = true ∨ (r.next c).FiresWithin c n := by
  constructor
  · rintro ⟨k, hk, hkn, ht50⟩
    obtain ⟨j, rfl⟩ := Nat.exists_eq_add_one.mpr hk
    rw [Function.iterate_succ_apply] at ht50
    rcases Nat.eq_zero_or_pos j with rfl | hj
    · exact .inl ht50
    · exact .inr ⟨j, hj, by omega, ht50⟩
  · rintro (ht50 | ⟨j, hj, hjn, ht50⟩)
    · exact ⟨1, le_rfl, by omega, ht50⟩
    · exact ⟨j + 1, by omega, by omega, by rwa [Function.iterate_succ_apply]⟩

/-- R68, R169: with `d` machine cycles of the instruction left, the loop ends at the boundary after `d` steps more, and
reports a pulse that it saw before or on one of their ticks. -/
theorem runCycles_finishes {u : State} {d fuel : Nat} (fired : Bool) (hfuel : d ≤ fuel) (hmc : 0 < u.seq.mc)
    (hlen : u.seq.mc + d = u.seq.lenCur) (hd : 0 < d) :
    ∃ iff fired', runCycles fuel fired u = .next (u.counted d 0 iff, fired') ∧ (u.intr.iff = true → iff = true) ∧
      (fired' = true ↔ fired = true ∨ u.raster.FiresWithin u.config d) := by
  induction d generalizing u fuel fired with
  | zero => omega
  | succ d ih =>
    obtain ⟨fuel, rfl⟩ := Nat.exists_eq_add_one.mpr (by omega : 0 < fuel)
    obtain ⟨iff, hstep, hiff⟩ := step_between hmc.ne'
    rw [runCycles_succ hstep]
    rcases Nat.eq_zero_or_pos d with rfl | hdpos
    · have hzero : (u.seq.mc + 1) % u.seq.lenCur = 0 := by rw [← hlen]; exact Nat.mod_self _
      rw [hzero]
      refine ⟨iff, _, if_pos rfl, hiff, ?_⟩
      rw [Raster.firesWithin_succ, Bool.or_eq_true]
      simp only [Raster.firesWithin_zero, or_false]
      rfl
    · have hnext : (u.seq.mc + 1) % u.seq.lenCur = u.seq.mc + 1 := Nat.mod_eq_of_lt (by omega)
      rw [hnext]
      obtain ⟨iff', fired', hrun, hiff', hfired'⟩ := ih (u := u.counted 1 (u.seq.mc + 1) iff)
        (fired || (u.counted 1 (u.seq.mc + 1) iff).raster.t50) (fuel := fuel) (by omega) (Nat.succ_pos _)
        ((Nat.add_right_comm u.seq.mc 1 d).trans hlen) hdpos
      rw [State.counted_counted, Nat.add_comm 1 d] at hrun
      refine ⟨iff', fired', (if_neg (by simp [State.atBoundary, State.counted])).trans hrun,
        fun h => hiff' (hiff h), hfired'.trans ?_⟩
      rw [Bool.or_eq_true, or_assoc, Raster.firesWithin_succ]
      rfl

theorem State.counted_zero {u : State} {mc : Nat} (hmc : u.seq.mc = mc) : u.counted 0 mc u.intr.iff = u := by
  subst hmc
  rfl

/-- R169: a step ticks the raster timer once and takes `cc` four further. -/
theorem step_clocks {s u : State} (h : step s = .next u) :
    u.map = s.map ∧ u.config = s.config ∧ u.raster = s.raster.next s.config ∧ u.seq.cc = s.seq.cc + 4 ∧
    u.seq.mc = (s.seq.mc + 1) % u.seq.lenCur := by
  obtain ⟨hmap, hraster, hconfig⟩ := procStep_keeps h
  obtain ⟨u', hstep, hcc, hmc, -⟩ := procStep_seq s.rasterTick.raster.t50 s.rasterTick
  cases h.symm.trans hstep
  exact ⟨hmap, hconfig, hraster, hcc, hmc⟩

/-- R23, R76: in a state that meets the invariant an instruction has 1 to 6 machine cycles. -/
theorem State.Inv.lenCur_mem_range {s : State} (h : s.Inv) : 1 ≤ s.seq.lenCur ∧ s.seq.lenCur ≤ 6 := by
  obtain ⟨hlt, hle⟩ := h.sequencer
  have hrange := Config.cyclesOf_mem_range h.config s.seq.ir
  omega

/-- R169: from a boundary, `execute_instruction` is the step that runs the instruction, then the rest of its machine
cycles. -/
theorem executeInstruction_spec {s : State} (hinv : s.Inv) (hmc : s.seq.mc = 0) :
    ∃ u iff fired, step s = .next u ∧ u.Inv ∧
      executeInstruction s = .next (u.counted (u.seq.lenCur - 1) 0 iff, fired) ∧ (u.intr.iff = true → iff = true) ∧
      (fired = true ↔ s.raster.FiresWithin s.config u.seq.lenCur) := by
  obtain ⟨u, hstep, -⟩ := procStep_seq s.rasterTick.raster.t50 s.rasterTick
  have hinvu : u.Inv := stepKeepsInvariant s u hinv hstep
  obtain ⟨-, hconfig, hraster, -, hmcu⟩ := step_clocks hstep
  obtain ⟨hlen, hlen'⟩ := hinvu.lenCur_mem_range
  obtain ⟨d, hd⟩ := Nat.exists_eq_add_one.mpr hlen
  rw [hmc, Nat.zero_add] at hmcu
  suffices hexec : ∃ iff fired, runCycles 6 false s = .next (u.counted (u.seq.lenCur - 1) 0 iff, fired) ∧
      (u.intr.iff = true → iff = true) ∧ (fired = true ↔ s.raster.FiresWithin s.config u.seq.lenCur) by
    obtain ⟨iff, fired, hrun, hrest⟩ := hexec
    exact ⟨u, iff, fired, hstep, hinvu, (if_pos (beq_iff_eq.mpr hmc)).trans hrun, hrest⟩
  rw [runCycles_succ hstep, hd, Nat.add_sub_cancel, Bool.false_or, Raster.firesWithin_succ, ← hraster, ← hconfig]
  rcases Nat.eq_zero_or_pos d with rfl | hdpos
  · have hzero : u.seq.mc = 0 := by rw [hmcu, hd]
    refine ⟨u.intr.iff, u.raster.t50, ?_, id, ?_⟩
    · rw [State.counted_zero hzero]
      exact if_pos (beq_iff_eq.mpr hzero)
    · simp only [Raster.firesWithin_zero, or_false]
  · have hone : u.seq.mc = 1 := by rw [hmcu]; exact Nat.mod_eq_of_lt (by omega)
    obtain ⟨iff, fired, hfinish, hiff, hfired⟩ :=
      runCycles_finishes (u := u) (d := d) (fuel := 5) u.raster.t50 (by omega) (by omega) (by omega) hdpos
    exact ⟨iff, fired, (if_neg (by simp [State.atBoundary, hone])).trans hfinish, hiff, hfired⟩

/-- Settles O16: `executeInstruction_spec`, field by field. -/
theorem executeInstructionRunsOneWhole : Obligations.ExecuteInstructionRunsOneWhole := by
  intro s hinv hmc
  obtain ⟨u, iff, fired, hstep, hinvu, hexec, hiff, hfired⟩ := executeInstruction_spec hinv hmc
  obtain ⟨hmap, hconfig, hraster, hcc, -⟩ := step_clocks hstep
  have hlen := hinvu.lenCur_mem_range
  refine ⟨u, _, fired, hstep, hexec, ?_, hlen, ?_, hfired, rfl, rfl, rfl, rfl, rfl, rfl, rfl, hmap, hconfig, rfl, hiff⟩
  · simp only [State.counted, hcc, Sequencer.mk.injEq, true_and]
    omega
  · obtain ⟨d, hd⟩ := Nat.exists_eq_add_one.mpr hlen.1
    simp only [State.counted, hd, Nat.add_sub_cancel, hraster, hconfig, Function.iterate_succ_apply]

/-! ### A frame of instructions (60_exceptions R170) -/

theorem runCycles_keeps_inv {fuel : Nat} {fired fired' : Bool} {s t : State} (hinv : s.Inv)
    (h : runCycles fuel fired s = .next (t, fired')) : t.Inv := by
  induction fuel generalizing fired s with
  | zero => cases h
  | succ fuel ih =>
    obtain ⟨u, hstep, -⟩ := procStep_seq s.rasterTick.raster.t50 s.rasterTick
    have hinvu : u.Inv := stepKeepsInvariant s u hinv hstep
    rw [runCycles_succ hstep] at h
    split at h
    · cases h
      exact hinvu
    · exact ih hinvu h

/-- R170: when the pulse comes on tick `k`, the loop of `execute_frame` ends with the instruction of that tick, which has
at most 5 ticks more. -/
theorem runInstructions_ends {fuel k : Nat} {s : State} (hinv : s.Inv) (hmc : s.seq.mc = 0) (hk : 1 ≤ k)
    (hfuel : k ≤ fuel) (hfires : ((Raster.next s.config)^[k] s.raster).t50 = true) :
    ∃ t, runInstructions fuel s = .next t ∧ t.seq.mc = 0 ∧ t.seq.cc ≤ s.seq.cc + 4 * (k + 5) := by
  induction fuel generalizing k s with
  | zero => omega
  | succ fuel ih =>
    obtain ⟨u, t, fired, -, hexec, hseq, ⟨hlen, hlen'⟩, hraster, hfired, -, -, -, -, -, -, -, -, hconfig, -, -⟩ :=
      executeInstructionRunsOneWhole s hinv hmc
    have hmct : t.seq.mc = 0 := by rw [hseq]
    have hcct : t.seq.cc = s.seq.cc + 4 * u.seq.lenCur := by rw [hseq]
    have hrun : runInstructions (fuel + 1) s = if fired then .next t else runInstructions fuel t := by
      rw [runInstructions, hexec]
    rw [hrun]
    cases fired with
    | true => exact ⟨t, rfl, hmct, by omega⟩
    | false =>
      have hlate : u.seq.lenCur < k := by
        by_contra hle
        exact Bool.false_ne_true (hfired.mpr ⟨k, hk, by omega, hfires⟩)
      have hinvt : t.Inv := runCycles_keeps_inv hinv ((if_pos (beq_iff_eq.mpr hmc)).symm.trans hexec)
      have hrest : ((Raster.next t.config)^[k - u.seq.lenCur] t.raster).t50 = true := by
        rw [hconfig, hraster, ← Function.iterate_add_apply, Nat.sub_add_cancel hlate.le]
        exact hfires
      obtain ⟨v, hv, hmcv, hccv⟩ := ih hinvt hmct (by omega) (by omega) hrest
      exact ⟨v, hv, hmcv, by omega⟩

/-- R167: from a whole number of quanta in the frame the pulse comes within a frame's ticks. -/
theorem Raster.fires_within_frame {c : Config} (h : c.Legal) {r : Raster} (hpixel : r.pixel < c.framePixels)
    (hline : r.line < c.frameLines) (hwhole : c.pixelQuantum ∣ r.pixel) : r.FiresWithin c c.frameTicks := by
  have hzero := Raster.iterate_next_eq_zero_iff h hpixel hline hwhole
  have ⟨_, _, _, ⟨hpixels, hlines, hq, hdvd⟩, _⟩ := h
  have hticks : 0 < c.frameTicks := Nat.mul_pos (Nat.div_pos (Nat.le_of_dvd hpixels hdvd) hq) hlines
  have hmod := Nat.mod_lt (r.index c) hticks
  have hsum : r.index c + (c.frameTicks - r.index c % c.frameTicks) =
        c.frameTicks * (r.index c / c.frameTicks + 1) := by
    have := Nat.mod_add_div (r.index c) c.frameTicks
    rw [Nat.mul_add]
    omega
  refine ⟨c.frameTicks - r.index c % c.frameTicks, by omega, Nat.sub_le _ _, ?_⟩
  rw [Raster.iterate_next_t50 r (by omega), hzero, hsum]
  exact Nat.mul_mod_right _ _

/-- Settles O17: the pulse comes within a frame's ticks, and the loop ends with its instruction. -/
theorem executeFrameEnds : Obligations.ExecuteFrameEnds := by
  intro s hinv hmc hwhole
  obtain ⟨hpixel, hline, -⟩ := hinv.raster
  obtain ⟨k, hk, hk', hfires⟩ := Raster.fires_within_frame hinv.config hpixel hline hwhole
  obtain ⟨t, hrun, hmct, hcct⟩ := runInstructions_ends hinv hmc hk hk' hfires
  exact ⟨t, (if_pos (beq_iff_eq.mpr hmc)).trans hrun, hmct, by omega⟩

end Sys2Proof.Machine

namespace Sys2Proof.Machine

/-! ### The host's calls (40_sequencer R65; 60_exceptions R172; 20_memory R37) -/

theorem State.atBoundary_iff (s : State) : s.atBoundary = true ↔ s.seq.mc = 0 := beq_iff_eq

theorem atBoundaryOnly_off {α : Type} {s : State} (hmc : s.seq.mc ≠ 0) (r : Host.Outcome α Fault Refusal) :
    atBoundaryOnly s r = .refused .offBoundary :=
  if_neg (mt s.atBoundary_iff.mp hmc)

theorem atBoundaryOnly_on {α : Type} {s : State} (hmc : s.seq.mc = 0) (r : Host.Outcome α Fault Refusal) :
    atBoundaryOnly s r = r :=
  if_pos (s.atBoundary_iff.mpr hmc)

/-- Settles O18: every call but `step(line)` is performed at a boundary only. -/
theorem hostCallsRefusedMidInstruction : Obligations.HostCallsRefusedMidInstruction := by
  intro s hmc
  have hoff : s.atBoundary ≠ true := mt s.atBoundary_iff.mp hmc
  exact ⟨⟨atBoundaryOnly_off hmc _, fun _ => atBoundaryOnly_off hmc _, if_neg hoff, if_neg hoff,
      fun _ => atBoundaryOnly_off hmc _⟩,
    ⟨fun _ _ => atBoundaryOnly_off hmc _, fun _ _ _ => atBoundaryOnly_off hmc _⟩,
    ⟨fun _ => atBoundaryOnly_off hmc _, fun _ _ => atBoundaryOnly_off hmc _, atBoundaryOnly_off hmc _,
      fun _ => atBoundaryOnly_off hmc _, atBoundaryOnly_off hmc _, fun _ => atBoundaryOnly_off hmc _,
      atBoundaryOnly_off hmc _, fun _ => atBoundaryOnly_off hmc _, atBoundaryOnly_off hmc _,
      fun _ => atBoundaryOnly_off hmc _⟩,
    ⟨atBoundaryOnly_off hmc _, atBoundaryOnly_off hmc _, fun _ => atBoundaryOnly_off hmc _⟩,
    ⟨fun _ => atBoundaryOnly_off hmc _, fun _ _ => atBoundaryOnly_off hmc _, fun _ _ => atBoundaryOnly_off hmc _⟩,
    fun line => ⟨_, procStep_between line hmc⟩⟩

/-- Settles O20: the two sides of the check on the bank indices. -/
theorem setMappingChecksBanks : Obligations.SetMappingChecksBanks :=
  fun _ _ hmc => ⟨fun hstack hram => (atBoundaryOnly_on hmc _).trans (if_pos ⟨hstack, hram⟩),
    fun hbeyond => (atBoundaryOnly_on hmc _).trans (if_neg (by omega))⟩

/-! ### Reset and load (70_reset R178, R179) -/

/-- R178: with no window and no stack bank, RAM and STACK are the 16-bit address. -/
theorem resetWith_translate (c : Config) (addr : Nat) {space : Space} (h : space ≠ .global) :
    (State.resetWith c).translate addr space = addr % 0x10000 := by
  cases space with
  | ram => exact ramOffset_modeZero _ rfl _
  | stack => rfl
  | global => exact absurd rfl h

/-- Settles O1: field by field; the image and the counters are empty tables. -/
theorem resetZeroesEveryPiece : Obligations.ResetZeroesEveryPiece := by
  refine ⟨fun r => ?_, rfl, rfl, rfl, rfl, rfl, rfl, rfl, rfl, rfl, rfl, fun g => ⟨rfl, rfl, rfl, rfl⟩,
    fun a space hspace => ?_⟩
  · cases r <;> rfl
  · exact (resetWith_translate _ a.toNat hspace).trans (Nat.mod_eq_of_lt a.isLt)

/-- R72: no instruction of the default tables is longer when not taken, opcode row by opcode row. -/
theorem defaultCyclesNT_le : ∀ e ∈ defaultCyclesNT.zip defaultCycles, 1 ≤ e.1 ∧ e.1 ≤ e.2 := by
  simp only [defaultCyclesNT, defaultCycles, List.zip_append, List.length_append, List.length_cons, List.length_nil,
    List.forall_mem_append]
  decide

theorem defaultCycles_length : defaultCycles.length = 256 := by
  simp only [defaultCycles, List.length_append]
  rfl

theorem defaultCyclesNT_length : defaultCyclesNT.length = 256 := by
  simp only [defaultCyclesNT, List.length_append]
  rfl

theorem defaultMnemonics_length : defaultMnemonics.length = 256 := by
  simp only [defaultMnemonics, List.length_append]
  rfl

/-- R7, R166: the block can be constructed with the defaults. -/
theorem Config.default_legal : Config.default.Legal :=
  ⟨Nat.succ_pos _, by decide, by decide, by decide, by decide, ⟨defaultCycles_length, defaultCycles_mem_range⟩,
    ⟨defaultCyclesNT_length, defaultCyclesNT_le⟩, defaultMnemonics_length⟩

theorem Sparse.wf_nil {α : Type} (dflt : α) : Sparse.Wf dflt [] :=
  ⟨List.Pairwise.nil, List.forall_mem_nil _⟩

theorem CounterArray.ok_nil (c : Config) : CounterArray.Ok c [] := ⟨Sparse.wf_nil 0, List.forall_mem_nil _⟩

/-- Settles O2: the defaults are legal, the tables are empty, and the rest is 0 but for the length 1. -/
theorem resetMeetsInvariant : Obligations.ResetMeetsInvariant where
  config := Config.default_legal
  memory := ⟨Sparse.wf_nil _, List.forall_mem_nil _⟩
  counts := ⟨CounterArray.ok_nil _, CounterArray.ok_nil _, CounterArray.ok_nil _⟩
  mapping := ⟨Nat.zero_le _, Nat.zero_le _⟩
  sequencer := ⟨Nat.zero_lt_one, le_rfl⟩
  raster := ⟨by decide, by decide, nofun⟩

/-- R179: a loaded image holds the blob's bytes from the offset on, and the image before everywhere else. -/
theorem lookup_loadBytes (bytes : List Byte) (m : Memory) (offset g : Nat) :
    Sparse.lookup 0#8 (loadBytes m offset bytes) g =
      if offset ≤ g ∧ g < offset + bytes.length then bytes.getD (g - offset) 0#8 else Sparse.lookup 0#8 m g := by
  induction bytes generalizing m offset with
  | nil =>
    rw [if_neg (by simp)]
    rfl
  | cons v rest ih =>
    rw [loadBytes, ih, Sparse.lookup_write]
    rcases Nat.lt_trichotomy g offset with hlt | rfl | hgt
    · rw [if_neg (by omega), if_neg (by omega), if_neg (by omega)]
    · rw [if_neg (by omega), if_pos rfl, if_pos ⟨le_rfl, by simp⟩, Nat.sub_self, List.getD_cons_zero]
    · obtain ⟨d, rfl⟩ : ∃ d, g = offset + 1 + d := ⟨g - (offset + 1), by omega⟩
      have hleft : offset + 1 + d - (offset + 1) = d := Nat.add_sub_cancel_left _ _
      have hleft' : offset + 1 + d - offset = d + 1 := by omega
      rw [hleft, hleft', List.getD_cons_succ, List.length_cons]
      by_cases hin : d < rest.length
      · rw [if_pos (by omega), if_pos (by omega)]
      · rw [if_neg (by omega), if_neg (by omega), if_neg (by omega)]

/-- Settles O19: the loaded image by `lookup_loadBytes`, read through the identity mapping of reset. -/
theorem loadPlacesTheBlob : Obligations.LoadPlacesTheBlob := by
  intro s hmc
  refine ⟨atBoundaryOnly_on hmc _, fun bytes hlong => ?_, fun bytes hfits => ?_⟩
  · exact (atBoundaryOnly_on hmc _).trans (if_pos hlong)
  · refine ⟨_, (atBoundaryOnly_on hmc _).trans (if_neg (Nat.not_lt.mpr hfits)), rfl,
      wf_loadBytes bytes (Sparse.wf_nil _) _, fun k hk => ?_, fun g hg => ?_⟩
    · have haddr : (State.resetWith s.config).translate (0x0100 + k) .ram = 0x0100 + k := by
        rw [resetWith_translate _ _ (by decide)]
        omega
      have hload := lookup_loadBytes bytes [] loadOffset (0x0100 + k)
      rw [if_pos (by simp only [loadOffset]; omega), loadOffset, Nat.add_sub_cancel_left] at hload
      exact (congrArg (Sparse.lookup 0#8 _) haddr).trans hload
    · exact (lookup_loadBytes bytes [] loadOffset g).trans (if_neg (by simp only [loadOffset]; omega))

end Sys2Proof.Machine

namespace Sys2Proof.Machine

/-! ### The backward scan (46_disassembler R152) -/

/-- R51: every instruction fills at least one byte, so n of them at least n. -/
theorem State.le_bytesFrom (s : State) (n : Nat) (a : Word) : n ≤ s.bytesFrom n a := by
  induction n generalizing a with
  | zero => exact Nat.zero_le _
  | succ n ih =>
    have hlen := lenOf_cases (s.read a.toNat .ram)
    have hrest := ih (a + BitVec.ofNat 16 (lenOf (s.read a.toNat .ram)))
    rw [State.bytesFrom]
    omega

/-- R152: the inner loop, which stops once its window is filled, answers a full window exactly when the instructions fill
it exactly. -/
theorem scanForward_eq_iff (s : State) (w n used : Nat) (a : Word) :
    scanForward s w n used a = (0, w) ↔ used + s.bytesFrom n a = w := by
  induction n generalizing used a with
  | zero => simp [scanForward, State.bytesFrom]
  | succ n ih =>
    rw [scanForward]
    split
    · rw [ih, State.bytesFrom, Nat.add_assoc]
    · next hfull =>
      have hmore := s.le_bytesFrom (n + 1) a
      refine iff_of_false (by simp) ?_
      omega

/-- R152: an attempt answers its candidate exactly when it fits. -/
theorem scanAttempt_eq (s : State) (e : Word) (n k : Nat) (a : Word) :
    scanAttempt s e n k = some a ↔ a = e - BitVec.ofNat 16 (n * (3 - k)) ∧ s.ScanFits e n k := by
  have hscan := scanForward_eq_iff s (n * (3 - k)) n 0 (e - BitVec.ofNat 16 (n * (3 - k)))
  rw [Nat.zero_add] at hscan
  unfold scanAttempt
  dsimp only [maxInstrLen]
  split
  · next h => simp [State.ScanFits, hscan.mp h, eq_comm]
  · next h => simp [State.ScanFits, mt hscan.mpr h]

theorem scanAttempt_eq_none (s : State) (e : Word) (n k : Nat) : scanAttempt s e n k = none ↔ ¬ s.ScanFits e n k := by
  rw [Option.eq_none_iff_forall_ne_some]
  simp [scanAttempt_eq]

/-- The first index of a range that is answered. -/
theorem findSome?_range_eq_some {α : Type} (f : Nat → Option α) (m : Nat) (b : α) :
    (List.range m).findSome? f = some b ↔ ∃ k, k < m ∧ f k = some b ∧ ∀ j, j < k → f j = none := by
  induction m with
  | zero => simp
  | succ m ih =>
    rw [List.range_succ, List.findSome?_append, Option.or_eq_some_iff, List.findSome?_eq_none_iff, ih]
    constructor
    · rintro (⟨k, hk, hval, hbefore⟩ | ⟨hbefore, hval⟩)
      · exact ⟨k, by omega, hval, hbefore⟩
      · exact ⟨m, Nat.lt_succ_self m, by simpa using hval, fun j hj => hbefore j (List.mem_range.mpr hj)⟩
    · rintro ⟨k, hk, hval, hbefore⟩
      obtain hlt | rfl := Nat.lt_succ_iff_lt_or_eq.mp hk
      · exact .inl ⟨k, hlt, hval, hbefore⟩
      · exact .inr ⟨fun j hj => hbefore j (List.mem_range.mp hj), by simpa using hval⟩

/-- Decoding n instructions forward moves by the bytes that they fill. -/
theorem State.iterate_decode_forward (s : State) (n : Nat) (a : Word) :
    (fun x : Word => x + BitVec.ofNat 16 (lenOf (s.read x.toNat .ram)))^[n] a =
      a + BitVec.ofNat 16 (s.bytesFrom n a) := by
  induction n generalizing a with
  | zero => simp [State.bytesFrom]
  | succ n ih => rw [Function.iterate_succ_apply, ih, State.bytesFrom, BitVec.ofNat_add, BitVec.add_assoc]

/-- R152: the scan answers the first attempt that fits. -/
theorem backwardScan_eq_some (s : State) (e : Word) (n : Nat) (a : Word) :
    backwardScan s e n = some a ↔
      ∃ k, k ≤ 3 ∧ a = e - BitVec.ofNat 16 (n * (3 - k)) ∧ s.ScanFits e n k ∧ ∀ j, j < k → ¬ s.ScanFits e n j := by
  unfold backwardScan
  simp only [findSome?_range_eq_some, scanAttempt_eq, scanAttempt_eq_none, maxInstrLen, Nat.lt_succ_iff, and_assoc]

theorem backwardScan_eq_none (s : State) (e : Word) (n : Nat) :
    backwardScan s e n = none ↔ ∀ k, k ≤ 3 → ¬ s.ScanFits e n k := by
  unfold backwardScan
  simp only [List.findSome?_eq_none_iff, List.mem_range, scanAttempt_eq_none, maxInstrLen, Nat.lt_succ_iff]

/-- Settles O21: which attempt answers by `backwardScan_eq_some`; its instructions fill the bytes up to the end. -/
theorem backwardScanLandsOnEnd : Obligations.BackwardScanLandsOnEnd := by
  intro s e n
  refine ⟨backwardScan_eq_some s e n, backwardScan_eq_none s e n, fun a ha => ?_, ?_⟩
  · obtain ⟨k, -, rfl, hfits, -⟩ := (backwardScan_eq_some s e n a).mp ha
    rw [State.iterate_decode_forward, hfits]
    exact BitVec.sub_add_cancel _ _
  · refine (backwardScan_eq_some s e 0 e).mpr ⟨0, Nat.zero_le _, ?_, rfl, nofun⟩
    exact (BitVec.sub_zero e).symm

/-! ### Ports and machine control (45_stack_io_control R140 to R146) -/

/-- Settles O55: `portIn` and `portOut` of the device that the parameters name. -/
theorem portInputAndOutput : Obligations.PortInputAndOutput := by
  intro port s
  refine ⟨hasForm_of_encode rfl rfl rfl, hasForm_of_encode rfl rfl rfl, fun v hstub => ⟨_, rfl, ?_⟩,
    fun hexternal => ⟨_, rfl, ?_⟩, fun v hstub => ⟨_, rfl, ?_⟩, fun hexternal => ⟨_, rfl, ?_⟩⟩
  · rw [portIn, hstub]
    rfl
  · rw [portIn, hexternal]
    rfl
  · rw [portOut, hstub]
  · rw [portOut, hexternal]

/-- Settles O56: EI, DI and HLT write their flip-flops; NOP and its duplicates are the identity. -/
theorem machineControl : Obligations.MachineControl :=
  ⟨⟨hasForm_of_encode rfl rfl rfl, hasForm_of_encode rfl rfl rfl, hasForm_of_encode rfl rfl rfl,
      hasForm_of_encode rfl rfl rfl, hasForm_nopU⟩,
    fun _ => ⟨⟨_, rfl, rfl⟩, ⟨_, rfl, rfl⟩, ⟨_, rfl, rfl⟩, ⟨_, rfl, rfl⟩, fun _ => ⟨_, rfl, rfl⟩⟩⟩

end Sys2Proof.Machine
